-- ==== Sys2Proof/Word.lean ====
section
/-! DEFINITION. The words and small finite index types the manual speaks of: 32-bit words of the survey memory and of
the register window (R175, para 10.1), bytes, 40-bit link words (para 1.1), and the sector numbers 0..255. -/
namespace Sys2Proof

/-- A 32-bit word of the survey memory or of the register window. -/
abbrev Word := BitVec 32

/-- One byte of the survey memory. -/
abbrev Byte := BitVec 8

/-- A word of the scanner link, 40 bits, the nibble sent first in the top four (para 1.1). -/
abbrev LinkWord := BitVec 40

/-- A sector number 0..255, of the rail frame or of the level frame. -/
abbrev Sector := Fin 256

end Sys2Proof
end

