-- ==== Sys2Proof/Config.lean ====
section
/-! DEFINITION. The free values: constants with no body, for what the manual leaves open. Nothing can be proved of a
value of theirs. The step applies each to the plain counter `freeIndex` of State and then advances that counter. -/
namespace Sys2Proof

/-- How many of a commit's stored samples had been folded when a reversal, a STOP_DROP or entry to FAULTED ended the
commit (R75, R78: "the cells it had already reached are left as they are"; the manual does not say how many). The
machine uses it bounded by the number of samples stored. Assumption 3. -/
opaque Config.samplesFolded : Nat → Nat

/-- How many words of a granted write burst the memory had accepted when a reset or the shutting of access ended it
(R174, R177: the words already written stay, the remaining ones are not written). The machine uses it bounded by the
length of the burst. Assumption 4. -/
opaque Config.wordsAccepted : Nat → Nat

/-- What a byte of a write burst that ended in a bus error holds afterwards: byte `k` of the burst, at the free index
`n` (R177: the words of the failing burst are unsound). Assumption 5. -/
opaque Config.unsoundByte : Nat → Nat → Byte

end Sys2Proof
end

