-- ==== Sys2Proof/Syntax.lean ====
section
/-! DEFINITION. The commands of the part: one constructor for each row of spec/opcode_table.json, in the table's
order, with the operands the manual gives the matter. -/
namespace Sys2Proof

/-- The three registers of the window that ignore every write (R162). -/
inductive IgnoredRegister where
  | ident | notice | detail
  deriving DecidableEq, Repr

/-- A command or event taken by the part. Each is whole and indivisible (95_what_each_step_holds.md). -/
inductive Instr where
  /-- SAMPLE_WORD (R2, R6): an accepted SAMPLE word: angle code, range in mm, strength. -/
  | sampleWord (angle : BitVec 12) (range : BitVec 14) (strength : BitVec 6)
  /-- GOOD_MARK (R3, R8): a good MARK: the number of the revolution it opens, and payload bits 15..8, the head flags. -/
  | goodMark (revolution : BitVec 16) (headFlags : BitVec 8)
  /-- FILL_WORD (R1): an accepted FILL word; its payload is ignored. -/
  | fillWord
  /-- HALT_WORD (R16): an accepted HALT word; its payload is ignored. -/
  | haltWord
  /-- WORD_ERROR (R1, R7): any other link word; it carries no content into the part. -/
  | wordError
  /-- MARK_TIMER_EXPIRY (R15): 250 ms have passed since the mark timer was last started or restarted. -/
  | markTimerExpiry
  /-- CANT_REPLY (R44): the inclinometer's reply: its value in centidegrees, two's complement, and its status. -/
  | cantReply (value : BitVec 16) (good : Bool)
  /-- REPLY_TIMER_EXPIRY (R44): 2 ms have passed since the read in flight was issued. -/
  | replyTimerExpiry
  /-- ODOMETER_STEP (R23): the levels of odometer lines 1 and 2 after a change of either; true is high. -/
  | odometerStep (line1 : Bool) (line2 : Bool)
  /-- MARKER_ARRIVAL (R36): an identifier arriving on the marker line. -/
  | markerArrival (ident : BitVec 16)
  /-- MARKER_TAKING (R37): the latched marker is taken. -/
  | markerTaking
  /-- COMMIT_END (R67): the last sample of the commit in progress has been dealt with. -/
  | commitEnd
  /-- EVALUATION_PASS_END (R92): sector 255 of the clearance pass has been assessed. -/
  | evaluationPassEnd
  /-- COMPARISON_PASS_END (R107): sector 255 of the comparison has been compared. -/
  | comparisonPassEnd
  /-- BURST_COMPLETE (R175): the grant in progress completes. `data` is what the memory holds at the burst's sixteen
  word positions; a read burst of n words takes the first n of it, a write burst takes none of it. -/
  | burstComplete (data : Vector Word 16)
  /-- BUS_ERROR (R177): the grant in progress ends in a bus error. -/
  | busError
  /-- NOTICE_READ (R150): the host reads NOTICE. -/
  | noticeRead
  /-- AREA_WRITE (R162): the host writes AREA. -/
  | areaWrite (value : Word)
  /-- INTERRUPT_ENABLE_WRITE (R162): the host writes CONTROL. -/
  | interruptEnableWrite (value : Word)
  /-- IGNORED_REGISTER_WRITE (R162): the host writes IDENT, NOTICE or DETAIL. -/
  | ignoredRegisterWrite (register : IgnoredRegister) (value : Word)
  /-- START (R165): a START post; the argument is the area offset of the plan. -/
  | start (offset : BitVec 24)
  /-- PLAN (R120): a PLAN post; the argument is the area offset of the plan. -/
  | plan (offset : BitVec 24)
  /-- RETURN (R141): a RETURN post; the argument is a sheet number. -/
  | returnSheet (sheet : BitVec 24)
  /-- STOP_FINISH (R169): a STOP_FINISH post; the argument is ignored. -/
  | stopFinish (argument : BitVec 24)
  /-- STOP_DROP (R171): a STOP_DROP post; the argument is ignored. -/
  | stopDrop (argument : BitVec 24)
  /-- RESET (R174): a RESET post; the argument is ignored. -/
  | reset (argument : BitVec 24)
  /-- UNKNOWN_POST_KIND (R163): a post whose kind is none of the six known kinds. -/
  | unknownPostKind (kind : BitVec 8) (argument : BitVec 24)
  /-- FULL_RESET (R174): power-on, or the release of the part's reset line. -/
  | fullReset
  deriving DecidableEq, Repr

end Sys2Proof
end

