-- ==== Sys2Proof/WellFormed.lean ====
section
/-! DEFINITION. Which terms of Instr are commands of the part. The operands' types already hold them to their widths;
one check remains: a post that UNKNOWN_POST_KIND stands for has none of the six known kinds (para 10.1, R163). -/
namespace Sys2Proof

/-- The post kinds 1..6 of para 10.1: START, PLAN, RETURN, STOP_FINISH, STOP_DROP, RESET. -/
def knownPostKind (kind : BitVec 8) : Bool :=
  1 ≤ kind.toNat && kind.toNat ≤ 6

/-- A term of Instr that is a command of the part. -/
def Instr.wellFormed : Instr → Bool
  | .sampleWord _ _ _ => true
  | .goodMark _ _ => true
  | .fillWord => true
  | .haltWord => true
  | .wordError => true
  | .markTimerExpiry => true
  | .cantReply _ _ => true
  | .replyTimerExpiry => true
  | .odometerStep _ _ => true
  | .markerArrival _ => true
  | .markerTaking => true
  | .commitEnd => true
  | .evaluationPassEnd => true
  | .comparisonPassEnd => true
  | .burstComplete _ => true
  | .busError => true
  | .noticeRead => true
  | .areaWrite _ => true
  | .interruptEnableWrite _ => true
  | .ignoredRegisterWrite _ _ => true
  | .start _ => true
  | .plan _ => true
  | .returnSheet _ => true
  | .stopFinish _ => true
  | .stopDrop _ => true
  | .reset _ => true
  | .unknownPostKind kind _ => !knownPostKind kind
  | .fullReset => true

end Sys2Proof
end

