-- ==== Sys2Proof/Decode.lean ====
section
/-! DEFINITION. Words to commands. What the manual encodes in bits is read here: the 40-bit words of the scanner link
(para 1.1, R1) and the host's writes to the register window (para 10.1, R162, R163); with each stands its encoder. The rows of
spec/opcode_table.json give no bits of their own, so `decodeTableWord` reads a word of 40 bits as a link word and no other
(DESIGN CHOICE, assumption 27). -/
namespace Sys2Proof

/-- Nibble `k` of a link word in the order sent: nibble 0 is the kind, 1..8 the payload, 9 the check (para 1.1). -/
def linkNibble (w : LinkWord) (k : Nat) : BitVec 4 :=
  (w >>> (4 * (9 - k))).setWidth 4

/-- The exclusive-OR of a link word's kind nibble and its eight payload nibbles (R1). -/
def linkCheck (w : LinkWord) : BitVec 4 :=
  ((((((((linkNibble w 0 ^^^ linkNibble w 1) ^^^ linkNibble w 2) ^^^ linkNibble w 3) ^^^ linkNibble w 4) ^^^
    linkNibble w 5) ^^^ linkNibble w 6) ^^^ linkNibble w 7) ^^^ linkNibble w 8)

/-- The command a word arriving from the head is (R1): SAMPLE 1, MARK 2, FILL 3, HALT 4, and otherwise, or where the
check nibble is wrong, a word error. -/
def linkWordCommand (w : LinkWord) : Instr :=
  if linkNibble w 9 = linkCheck w then
    match (linkNibble w 0).toNat with
    | 1 => .sampleWord (w.extractLsb' 24 12) (w.extractLsb' 10 14) (w.extractLsb' 4 6)
    | 2 => .goodMark (w.extractLsb' 20 16) (w.extractLsb' 12 8)
    | 3 => .fillWord
    | 4 => .haltWord
    | _ => .wordError
  else .wordError

/-- The command a word spells: one of 40 bits is a link word arriving from the head, and is the command R1 makes of it. No row
of the table gives bits of its own, so a word of any other width spells none (DESIGN CHOICE, assumption 27). -/
def decodeTableWord (nbits w : Nat) : Option Instr :=
  if nbits = 40 ∧ w < 1099511627776 then some (linkWordCommand (BitVec.ofNat 40 w)) else none

/-- The link word of a kind and a payload, with the check nibble R1 asks for. -/
def linkWordOf (kind : BitVec 4) (payload : BitVec 32) : LinkWord :=
  let w : LinkWord := kind ++ payload ++ (0 : BitVec 4)
  w ||| (linkCheck w).setWidth 40

/-- The word the head sends for a link command: the unused bits of a MARK, and the payloads of FILL and HALT, sent as
zeros (para 1.1). None for what is no accepted link word. -/
def encodeLinkWord : Instr → Option LinkWord
  | .sampleWord a r q => some (linkWordOf 1 (a ++ r ++ q))
  | .goodMark n f => some (linkWordOf 2 (n ++ f ++ (0 : BitVec 8)))
  | .fillWord => some (linkWordOf 3 0)
  | .haltWord => some (linkWordOf 4 0)
  | _ => none

/-- The RUN word of R4: nibbles 8, 0 (eight times), 8. -/
def runWord : LinkWord := linkWordOf 8 0

/-- The STOP word of R4: nibbles 9, 0 (eight times), 9. -/
def stopWord : LinkWord := linkWordOf 9 0

/-- The command a write of POST is: its kind in bits 31..24, its argument in bits 23..0 (para 10.2). -/
def postCommand (v : Word) : Instr :=
  let argument := v.extractLsb' 0 24
  match (v.extractLsb' 24 8).toNat with
  | 1 => .start argument
  | 2 => .plan argument
  | 3 => .returnSheet argument
  | 4 => .stopFinish argument
  | 5 => .stopDrop argument
  | 6 => .reset argument
  | _ => .unknownPostKind (v.extractLsb' 24 8) argument

/-- The command a write to the register window is: the byte offset of the register from the part's register base and
the value written (para 10.1). None where the window has no register. -/
def registerWriteCommand (offset : Nat) (v : Word) : Option Instr :=
  match offset with
  | 0x00 => some (.ignoredRegisterWrite .ident v)
  | 0x04 => some (.interruptEnableWrite v)
  | 0x08 => some (.areaWrite v)
  | 0x0C => some (postCommand v)
  | 0x10 => some (.ignoredRegisterWrite .notice v)
  | 0x14 => some (.ignoredRegisterWrite .detail v)
  | _ => none

/-- The register offset and the value by which the host gives a command of the register window. -/
def encodeRegisterWrite : Instr → Option (Nat × Word)
  | .ignoredRegisterWrite .ident v => some (0x00, v)
  | .interruptEnableWrite v => some (0x04, v)
  | .areaWrite v => some (0x08, v)
  | .start a => some (0x0C, (1 : BitVec 8) ++ a)
  | .plan a => some (0x0C, (2 : BitVec 8) ++ a)
  | .returnSheet a => some (0x0C, (3 : BitVec 8) ++ a)
  | .stopFinish a => some (0x0C, (4 : BitVec 8) ++ a)
  | .stopDrop a => some (0x0C, (5 : BitVec 8) ++ a)
  | .reset a => some (0x0C, (6 : BitVec 8) ++ a)
  | .unknownPostKind k a => some (0x0C, k ++ a)
  | .ignoredRegisterWrite .notice v => some (0x10, v)
  | .ignoredRegisterWrite .detail v => some (0x14, v)
  | _ => none

end Sys2Proof
end

