-- ==== Sys2Proof/Machine/State.lean ====
section
/-! DEFINITION. The state of the part as plain data, block by block as para 0.4 lists them, the reasons a step can stop,
and the machine right after a full reset (R21, R42, R50, the table after R78, R98, R112, the table after R128, R148,
R161, R164, R174). -/
namespace Sys2Proof.Machine

/-! ### Reasons to stop -/

/-- No command of this part faults the machine: the manual gives every command its effect in every state (a bus error
and a second link fault put the survey in FAULTED, which is a next state, R173). The type has no constructor. -/
inductive Fault where
  deriving DecidableEq, Repr

/-- Why a command has no meaning in the model. -/
inductive Refusal where
  /-- Raised by exec's arm of a command that has no meaning yet; no arm of this model raises it. Safe. -/
  | notModelled (mnemonic : String)
  deriving DecidableEq, Repr

/-! ### Sweep Port (chapter 1) -/

inductive Intake where
  | opened | closed
  deriving DecidableEq, Repr

/-- The receiver state of para 1.3. -/
inductive Receiver where
  | waiting | receiving | discard
  deriving DecidableEq, Repr

/-- Revolution buffer A or B. -/
inductive BufferId where
  | a | b
  deriving DecidableEq, Repr

inductive BufferPhase where
  | free | receiving | handed
  deriving DecidableEq, Repr

/-- A stored sample: angle code, range and strength as the head sent them (R2, R6). -/
structure Sample where
  angle : BitVec 12
  range : BitVec 14
  strength : BitVec 6
  deriving DecidableEq, Repr

/-- A revolution buffer: its state and its samples in arrival order, at most 8192 (R6). -/
structure RevolutionBuffer where
  phase : BufferPhase
  samples : List Sample
  deriving DecidableEq, Repr

/-- Accumulator bank 0 or 1. -/
inductive BankId where
  | bank0 | bank1
  deriving DecidableEq, Repr

/-- The tag of a revolution: a bank and the opening number of its station (R11). -/
structure Tag where
  bank : BankId
  opening : BitVec 16
  deriving DecidableEq, Repr

/-- The revolution being received. Its sample count is the number of samples its buffer holds. -/
structure Revolution where
  opening : BitVec 16
  tag : Option Tag
  window : Bool
  buffer : BufferId
  deriving DecidableEq, Repr

/-- An entry of the handover order: what R13 hands to the Sector Accumulator with the buffer. -/
structure Handed where
  buffer : BufferId
  tag : Tag
  window : Bool
  opening : BitVec 16
  closing : BitVec 16
  deriving DecidableEq, Repr

/-- The two downlink commands (R4). -/
inductive HeadCommand where
  | run | stop
  deriving DecidableEq, Repr

structure SweepPort where
  intake : Intake
  receiver : Receiver
  bufferA : RevolutionBuffer
  bufferB : RevolutionBuffer
  /-- The revolution being received; present in RECEIVING only. -/
  current : Option Revolution
  /-- The HANDED buffers in the order they were handed. -/
  handover : List Handed
  lastGood : Option (BitVec 16)
  /-- The mark timer runs (true) or is stopped. -/
  markTimer : Bool
  /-- The link fault latch is set. -/
  latch : Bool
  runFaults : Nat
  lastCommand : HeadCommand
  deriving DecidableEq, Repr

/-! ### Chainage Unit (chapter 2) -/

inductive ChainageMode where
  | held | counting | surveying
  deriving DecidableEq, Repr

inductive Tracker where
  | tracking | backed
  deriving DecidableEq, Repr

/-- The levels of odometer lines 1 and 2; true is high. -/
structure Levels where
  line1 : Bool
  line2 : Bool
  deriving DecidableEq, Repr

/-- A latched marker: its identifier, the chainage at its arrival (1/1024 mm) and CROWDED (R36). -/
structure MarkerLatch where
  ident : BitVec 16
  chainage : Int
  crowded : Bool
  deriving DecidableEq, Repr

structure ChainageUnit where
  mode : ChainageMode
  /-- Signed, in units of 1/1024 mm, held within 48 bits (R25). -/
  chainage : Int
  peak : Int
  tracker : Tracker
  /-- The last observed levels; none before START takes them. -/
  lineReference : Option Levels
  openStation : Option Int
  marker : Option MarkerLatch
  deriving DecidableEq, Repr

/-! ### Cant Input (chapter 3) -/

structure CantInput where
  /-- 0 to 4 corrected readings in centidegrees, oldest first. -/
  history : List Int
  failures : Nat
  /-- A read has been issued and awaits its reply, its reply timer running. -/
  readInFlight : Bool
  deriving DecidableEq, Repr

/-! ### Plan Loader (chapter 7) -/

inductive Direction where
  | forward | backward
  deriving DecidableEq, Repr

inductive CountSign where
  | positive | negative
  deriving DecidableEq, Repr

/-- The calibration of para 7.1. -/
structure Calibration where
  direction : Direction
  countSign : CountSign
  countPitch : Nat
  startChainage : Int
  stationPitch : Nat
  hysteresis : Nat
  trimCode : Nat
  mountRoll : Int
  zeroOffset : Int
  rmin : Nat
  rmax : Nat
  nmin : Nat
  nmax : Nat
  cantZero : Int
  /-- Bit s is set when rail sector s is masked. -/
  mask : BitVec 256
  deriving DecidableEq, Repr

inductive ReportMode where
  | exceptions | full
  deriving DecidableEq, Repr

/-- The parameters a zone, or the plan's defaults, carries (R80). -/
structure ZoneParameters where
  radius : Int
  tolerance : Int
  warn : Nat
  deformLimit : Nat
  floor : Nat
  mode : ReportMode
  baselineUse : Bool
  deriving DecidableEq, Repr

/-- A zone covers chainages from `first` up to, but not including, `past` (para 7.2). -/
structure Zone where
  first : Int
  past : Int
  parameters : ZoneParameters
  deriving DecidableEq, Repr

structure Band where
  limit : Nat
  left : Nat
  right : Nat
  deriving DecidableEq, Repr

structure Marker where
  ident : Nat
  chainage : Int
  deriving DecidableEq, Repr

/-- The baseline descriptor of para 6.1. -/
structure BaselineDescriptor where
  offset : Nat
  first : Int
  count : Nat
  deriving DecidableEq, Repr

/-- The tables of a loaded plan (para 7.2). -/
structure PlanTables where
  straight : Nat
  snapWindow : Nat
  kr : Nat
  km : Nat
  blindLimit : Nat
  closeAfter : Nat
  baseline : BaselineDescriptor
  defaults : ZoneParameters
  zones : List Zone
  bands : List Band
  /-- Each template is 256 radii in sector order. -/
  templates : List (List Nat)
  markers : List Marker
  deriving DecidableEq, Repr

/-- Plan set X or Y. -/
inductive SetId where
  | x | y
  deriving DecidableEq, Repr

inductive SetStatus where
  | invalid | loaded
  deriving DecidableEq, Repr

/-- The mark of a plan set: ACTIVE, PENDING or neither. -/
inductive SetMark where
  | unmarked | active | pending
  deriving DecidableEq, Repr

structure PlanSet where
  status : SetStatus
  mark : SetMark
  references : Nat
  generation : Nat
  offset : Nat
  tables : PlanTables
  deriving DecidableEq, Repr

inductive LoadPhase where
  | header | arrays
  deriving DecidableEq, Repr

/-- The load: none, WAITING or COPYING. While COPYING, `words` are the words of the plan received so far, kept for the
checks of R115; the next offset to be read is the plan offset plus four for each of them. -/
inductive Load where
  | idle
  | waiting (target : SetId) (offset : Nat)
  | copying (target : SetId) (offset : Nat) (phase : LoadPhase) (words : List Word)
  deriving DecidableEq, Repr

structure PlanLoader where
  calibration : Option Calibration
  /-- The words of the calibration block received so far (R113). -/
  calibrationWords : List Word
  setX : PlanSet
  setY : PlanSet
  load : Load
  deriving DecidableEq, Repr

/-! ### Sector Accumulator (chapter 4) -/

inductive BankPhase where
  | free | opened | closing | evaluating
  deriving DecidableEq, Repr

/-- The plan set a station is bound to, with the generation loaded in it at the opening. -/
structure PlanReference where
  set : SetId
  generation : Nat
  deriving DecidableEq, Repr

/-- The flags of a station (chapter 4). -/
structure StationFlags where
  thin : Bool
  poorCover : Bool
  cantHeld : Bool
  window : Bool
  snapped : Bool
  stretched : Bool
  cutShort : Bool
  odo : Bool
  defaultZone : Bool
  noBaseline : Bool
  baseMismatch : Bool
  deriving DecidableEq, Repr

structure RailCell where
  count : Nat
  least : Nat
  second : Nat
  deriving DecidableEq, Repr

structure LevelCell where
  count : Nat
  sum : Nat
  deriving DecidableEq, Repr

structure Bank where
  phase : BankPhase
  openingNumber : BitVec 16
  /-- The number of the station opened. -/
  first : Int
  span : Nat
  startChainage : Int
  endChainage : Option Int
  planReference : Option PlanReference
  /-- The zone index; none is DEFAULT. -/
  zone : Option Nat
  committed : Nat
  discarded : Nat
  inHand : Nat
  /-- The pending boundary is held. -/
  boundaryHeld : Bool
  flags : StationFlags
  rail : Vector RailCell 256
  level : Vector LevelCell 256
  deriving DecidableEq, Repr

/-- The commit in progress: its buffer and tag, and what R64 takes at its start. -/
structure Commit where
  buffer : BufferId
  tag : Tag
  window : Bool
  /-- The cant angle offset C, angle units (R49). -/
  cantOffset : Int
  /-- The held indication (R48). -/
  cantHeld : Bool
  /-- The strength floor of the target station's zone. -/
  floor : Nat
  deriving DecidableEq, Repr

structure SectorAccumulator where
  openingCounter : BitVec 16
  commit : Option Commit
  /-- The banks that have closed and are not yet FREE, in the order they closed. -/
  evaluationOrder : List BankId
  bank0 : Bank
  bank1 : Bank
  deriving DecidableEq, Repr

/-! ### Clearance Evaluator (chapter 5) -/

inductive EvaluatorPhase where
  | idle | assessing
  deriving DecidableEq, Repr

inductive RailClass where
  | masked | ungauged | blind | encroach | near | clear
  deriving DecidableEq, Repr

structure RailResult where
  cls : RailClass
  margin : Option Int
  deriving DecidableEq, Repr

structure ClearanceSummary where
  worstMargin : Option Int
  worstSector : Option Nat
  encroach : Nat
  near : Nat
  blind : Nat
  deriving DecidableEq, Repr

structure ClearanceEvaluator where
  phase : EvaluatorPhase
  bank : Option BankId
  template : Nat
  tolerance : Int
  warn : Nat
  blindLimit : Nat
  nextSector : Nat
  results : List RailResult
  summary : ClearanceSummary
  deriving DecidableEq, Repr

/-! ### Baseline Comparator (chapter 6) -/

inductive ComparatorPhase where
  | idle | reading | comparing
  deriving DecidableEq, Repr

/-- What the Clearance Evaluator hands over (R94). -/
structure RailHandover where
  results : List RailResult
  template : Nat
  summary : ClearanceSummary
  deriving DecidableEq, Repr

inductive BaselineCondition where
  | notUsed | outside | withheld | mismatch | present
  deriving DecidableEq, Repr

inductive LevelStatus where
  | noBase | none | steady | deform
  deriving DecidableEq, Repr

structure LevelResult where
  status : LevelStatus
  deviation : Option Int
  deriving DecidableEq, Repr

structure BaselineComparator where
  phase : ComparatorPhase
  bank : Option BankId
  rail : Option RailHandover
  baselineUse : Bool
  deformLimit : Nat
  meanFloor : Nat
  mode : ReportMode
  descriptor : BaselineDescriptor
  /-- Undecided (none) while READING. -/
  condition : Option BaselineCondition
  /-- The words of the baseline record received so far, at most 130. -/
  record : List Word
  nextSector : Nat
  results : List LevelResult
  deformCount : Nat
  maxDeviation : Option Int
  deriving DecidableEq, Repr

/-! ### Sheet Writer (chapter 8) -/

/-- The record kinds of R131. -/
inductive RecordKind where
  | station | marker | plan | reversal | resume | link | finish
  deriving DecidableEq, Repr

/-- A record as it is offered: its kind, its kind flags (byte 1), its reserved half-word and its words from offset 8.
The lost-before field is filled in at admission. END is the kind `finish`. -/
structure Record where
  kind : RecordKind
  flags : BitVec 8
  reserved : BitVec 16
  body : List Word
  deriving DecidableEq, Repr

/-- A record of the output queue with its lost-before count (R133). -/
structure Queued where
  record : Record
  lostBefore : Nat
  deriving DecidableEq, Repr

/-- The sheet in the filling slot. -/
structure Filling where
  sheet : Nat
  sequence : Nat
  writeOffset : Nat
  records : Nat
  stations : Nat
  deriving DecidableEq, Repr

inductive Drain where
  | still | ready | opening | writing | closing | starved
  deriving DecidableEq, Repr

inductive StopMode where
  | unset | finish | drop
  deriving DecidableEq, Repr

structure SheetWriter where
  sheetCount : Nat
  sheetSize : Nat
  sheetBase : Nat
  queue : List Queued
  lost : Nat
  runLost : Nat
  freeSheets : List Nat
  filling : Option Filling
  closedSheets : List Nat
  sequence : Nat
  drain : Drain
  stopMode : StopMode
  /-- An END of FINISH waits outside the queue for room (R134). -/
  endWaiting : Bool
  /-- The first body word of the END record written, until the stop ends: run lost total and END status (R144). -/
  endWritten : Option Word
  deriving DecidableEq, Repr

/-! ### Notice Unit (chapter 9) -/

inductive FaultCause where
  | bus | link
  deriving DecidableEq, Repr

structure FaultLatch where
  cause : FaultCause
  particulars : Word
  deriving DecidableEq, Repr

/-- A latch that holds an argument, particulars and MORE; LINK_FAULT's MORE is never set. -/
structure NoticeLatch where
  argument : BitVec 24
  particulars : Word
  more : Bool
  deriving DecidableEq, Repr

inductive AlertKind where
  | encroach | deform
  deriving DecidableEq, Repr

/-- An entry of the alert list (chapter 9). -/
structure Alert where
  station : Int
  kind : AlertKind
  worstMargin : Option Int
  worstSector : Option Nat
  deformCount : Nat
  maxDeviation : Option Int
  deriving DecidableEq, Repr

structure NoticeUnit where
  fault : Option FaultLatch
  linkFault : Option NoticeLatch
  alerts : List Alert
  displaced : Bool
  starved : Option Word
  markerMismatch : Option NoticeLatch
  cantFault : Option NoticeLatch
  setupFault : Option NoticeLatch
  planTaken : Option NoticeLatch
  reversal : Option NoticeLatch
  stopped : Option NoticeLatch
  unannounced : List Nat
  detail : Word
  deriving DecidableEq, Repr

/-! ### Survey Control (chapter 10) -/

inductive Survey where
  | idle | starting | running | stopping | faulted
  deriving DecidableEq, Repr

inductive StartPhase where
  | unset | header | calibration | plan | initialising
  deriving DecidableEq, Repr

inductive StopPhase where
  | unset | draining | ending
  deriving DecidableEq, Repr

/-- The area geometry accepted from the area header (R165). -/
structure Geometry where
  areaSize : Nat
  calibrationOffset : Nat
  sheetCount : Nat
  sheetSize : Nat
  sheetBase : Nat
  deriving DecidableEq, Repr

inductive PostResult where
  | ok | badState | badArg
  deriving DecidableEq, Repr

structure SurveyControl where
  survey : Survey
  startPhase : StartPhase
  stopPhase : StopPhase
  stopMode : StopMode
  planOffset : BitVec 24
  geometry : Option Geometry
  lastKind : BitVec 8
  lastResult : PostResult
  area : Word
  interruptEnable : Bool
  deriving DecidableEq, Repr

/-! ### Memory Port (chapter 10) -/

/-- The requesters in their rank order (R176). -/
inductive Requester where
  | comparator | writer | control | loader
  deriving DecidableEq, Repr

/-- What a burst is for, by which its completion is dealt with. -/
inductive Purpose where
  /-- Nine bursts of a baseline record (R102). -/
  | baseline
  /-- The header of a sheet just taken (R137). -/
  | sheetHeader
  /-- The FILLING roster entry of a sheet just taken (R137). -/
  | fillingEntry
  /-- The record at the head of the output queue (R138). -/
  | record
  /-- Bytes used and record count of a sheet being closed (R140). -/
  | finalHeader
  /-- The CLOSED roster entry of a sheet being closed (R140). -/
  | closedEntry
  /-- The QUEUED roster entry of an accepted RETURN (R141). -/
  | returnedEntry
  /-- A QUEUED roster entry of the initialisation at START (R135). -/
  | queuedEntry
  /-- A HELD roster entry at the end of a stop (R144). -/
  | heldEntry
  /-- The leading fields of the area header (R165). -/
  | areaHeader
  /-- The position block (R172). -/
  | position
  /-- The calibration block (R113). -/
  | calibration
  /-- The plan header (R114). -/
  | planHeader
  /-- The arrays of a plan (R114). -/
  | planArrays
  deriving DecidableEq, Repr

/-- What a burst moves: a read of so many words, or a write of these words. -/
inductive Transfer where
  | read (words : Nat)
  | write (words : List Word)
  deriving DecidableEq, Repr

/-- A burst, beginning at an area offset (R175). -/
structure Burst where
  offset : Nat
  transfer : Transfer
  purpose : Purpose
  deriving DecidableEq, Repr

/-- The grant in progress: its requester, its burst, the AREA base it was granted under, and whether its requester has
given it up meanwhile, so that its completion is reported to nobody (R111, R123, R145). -/
structure Grant where
  requester : Requester
  burst : Burst
  base : Word
  abandoned : Bool
  deriving DecidableEq, Repr

inductive Access where
  | opened | shut
  deriving DecidableEq, Repr

structure MemoryPort where
  comparatorQueue : List Burst
  writerQueue : List Burst
  controlQueue : List Burst
  loaderQueue : List Burst
  grant : Option Grant
  access : Access
  deriving DecidableEq, Repr

/-! ### The whole machine -/

/-- What the part sends on its lines: a word to the scanner head, or a read request on the cant line. -/
inductive LineOut where
  | head (word : LinkWord)
  | cantRead
  deriving DecidableEq, Repr

/-- The survey memory as far as the part has written it: byte address on the bus and byte, addresses strictly rising. -/
abbrev Memory := List Host.Cell

structure State where
  sweep : SweepPort
  chainage : ChainageUnit
  cant : CantInput
  accumulator : SectorAccumulator
  evaluator : ClearanceEvaluator
  comparator : BaselineComparator
  loader : PlanLoader
  sheets : SheetWriter
  notices : NoticeUnit
  control : SurveyControl
  port : MemoryPort
  /-- What the part has written into the survey memory (outside the part; no reset touches it). -/
  memory : Memory
  /-- The levels of the two odometer lines as they stand (pins). -/
  lines : Levels
  /-- Everything sent on the link and on the cant line, oldest first (pins; the model's own record of them). -/
  sent : List LineOut
  /-- The value the last read of NOTICE returned to the host (the model's own record of the bus). -/
  hostRead : Word
  /-- The position block is to be written when the event now being taken ends; false between events (model's own). -/
  positionDue : Bool
  /-- The index of the next free value (model's own). -/
  freeIndex : Nat
  /-- The commands that are waiting, first in, first out (the model's queue). -/
  pending : List Instr
  deriving DecidableEq, Repr

/-! ### Reset values -/

def RevolutionBuffer.reset : RevolutionBuffer :=
  { phase := .free, samples := [] }

/-- R21. -/
def SweepPort.reset : SweepPort :=
  { intake := .closed, receiver := .waiting, bufferA := .reset, bufferB := .reset, current := none, handover := [],
    lastGood := none, markTimer := false, latch := false, runFaults := 0, lastCommand := .stop }

/-- The table after R42. -/
def ChainageUnit.reset : ChainageUnit :=
  { mode := .held, chainage := 0, peak := 0, tracker := .tracking, lineReference := none, openStation := none,
    marker := none }

/-- R50. -/
def CantInput.reset : CantInput :=
  { history := [], failures := 0, readInFlight := false }

/-- Plan tables cleared to 0 (the table after R128). -/
def PlanTables.cleared : PlanTables :=
  { straight := 0, snapWindow := 0, kr := 0, km := 0, blindLimit := 0, closeAfter := 0,
    baseline := { offset := 0, first := 0, count := 0 },
    defaults := { radius := 0, tolerance := 0, warn := 0, deformLimit := 0, floor := 0, mode := .exceptions,
                  baselineUse := false },
    zones := [], bands := [], templates := [], markers := [] }

def PlanSet.reset : PlanSet :=
  { status := .invalid, mark := .unmarked, references := 0, generation := 0, offset := 0, tables := .cleared }

/-- The table after R128. -/
def PlanLoader.reset : PlanLoader :=
  { calibration := none, calibrationWords := [], setX := .reset, setY := .reset, load := .idle }

def StationFlags.clear : StationFlags :=
  { thin := false, poorCover := false, cantHeld := false, window := false, snapped := false, stretched := false,
    cutShort := false, odo := false, defaultZone := false, noBaseline := false, baseMismatch := false }

/-- The empty value of a rail cell (chapter 4). -/
def RailCell.empty : RailCell :=
  { count := 0, least := 16383, second := 16383 }

/-- The empty value of a level cell (chapter 4). -/
def LevelCell.empty : LevelCell :=
  { count := 0, sum := 0 }

def Bank.reset : Bank :=
  { phase := .free, openingNumber := 0, first := 0, span := 1, startChainage := 0, endChainage := none,
    planReference := none, zone := none, committed := 0, discarded := 0, inHand := 0, boundaryHeld := false,
    flags := .clear, rail := Vector.replicate 256 .empty, level := Vector.replicate 256 .empty }

/-- The table after R78. -/
def SectorAccumulator.reset : SectorAccumulator :=
  { openingCounter := 0, commit := none, evaluationOrder := [], bank0 := .reset, bank1 := .reset }

/-- The running summary as an evaluation begins (R79), and after reset (R98). -/
def ClearanceSummary.start : ClearanceSummary :=
  { worstMargin := none, worstSector := none, encroach := 0, near := 0, blind := 0 }

/-- R98. -/
def ClearanceEvaluator.reset : ClearanceEvaluator :=
  { phase := .idle, bank := none, template := 0, tolerance := 0, warn := 0, blindLimit := 0, nextSector := 0,
    results := [], summary := .start }

/-- R112. -/
def BaselineComparator.reset : BaselineComparator :=
  { phase := .idle, bank := none, rail := none, baselineUse := false, deformLimit := 1, meanFloor := 1,
    mode := .exceptions, descriptor := { offset := 0, first := 0, count := 0 }, condition := some .notUsed,
    record := [], nextSector := 0, results := [], deformCount := 0, maxDeviation := none }

/-- R148. -/
def SheetWriter.reset : SheetWriter :=
  { sheetCount := 0, sheetSize := 0, sheetBase := 0, queue := [], lost := 0, runLost := 0, freeSheets := [],
    filling := none, closedSheets := [], sequence := 0, drain := .still, stopMode := .unset, endWaiting := false,
    endWritten := none }

/-- R161. -/
def NoticeUnit.reset : NoticeUnit :=
  { fault := none, linkFault := none, alerts := [], displaced := false, starved := none, markerMismatch := none,
    cantFault := none, setupFault := none, planTaken := none, reversal := none, stopped := none, unannounced := [],
    detail := 0 }

/-- R164 and R174, full reset. -/
def SurveyControl.reset : SurveyControl :=
  { survey := .idle, startPhase := .unset, stopPhase := .unset, stopMode := .unset, planOffset := 0, geometry := none,
    lastKind := 0, lastResult := .ok, area := 0, interruptEnable := false }

/-- R174: empty request queues, no grant in progress, access OPEN. -/
def MemoryPort.reset : MemoryPort :=
  { comparatorQueue := [], writerQueue := [], controlQueue := [], loaderQueue := [], grant := none,
    access := .opened }

/-- The machine right after power-on: every block as its chapter gives it after a full reset, STOP sent to the head
(R21), the part having written nothing into the survey memory. The levels of the odometer lines are the world's; the
model takes both low (DESIGN CHOICE, assumption 1). -/
def State.reset : State :=
  { sweep := .reset, chainage := .reset, cant := .reset, accumulator := .reset, evaluator := .reset,
    comparator := .reset, loader := .reset, sheets := .reset, notices := .reset, control := .reset, port := .reset,
    memory := [], lines := { line1 := false, line2 := false }, sent := [.head stopWord], hostRead := 0,
    positionDue := false, freeIndex := 0, pending := [] }

end Sys2Proof.Machine
end

