-- ==== Sys2Proof/Machine/Operands.lean ====
section
/-! DEFINITION. The pure readings the commands share: exact integer arithmetic with its clamps and roundings (para 0.7),
chainage and station numbers (R25, R26), cant (R48, R49), the correction of a sample (R51 to R55), folding into cells
(R65, R66), and the reading of the calibration block and of plans with their checks (R113 to R116, R178 to R180). -/
namespace Sys2Proof.Machine

/-! ### Clamps and saturation (para 0.7) -/

/-- `x` clamped to `lo`..`hi`. -/
def clampInt (lo hi x : Int) : Int :=
  max lo (min hi x)

/-- A count raised by one, saturating at `limit`. -/
def saturatingSucc (limit n : Nat) : Nat :=
  min limit (n + 1)

/-- A value carried as a signed 32-bit word, held at the nearer limit (R25, R182). -/
def carried32 (x : Int) : Int :=
  clampInt (-2147483648) 2147483647 x

/-- A signed quantity as a word. -/
def signedWord (x : Int) : Word :=
  BitVec.ofInt 32 x

/-- A count as a word. -/
def natWord (n : Nat) : Word :=
  BitVec.ofNat 32 n

/-- A signed 16-bit field, -32768 when absent (para 0.7). -/
def signed16 (x : Option Int) : BitVec 16 :=
  BitVec.ofInt 16 (x.getD (-32768))

/-! ### Chainage and stations (chapter 2) -/

/-- The least internal chainage, in 1/1024 mm (R25). -/
def chainageMin : Int := -140737488355328

/-- The greatest internal chainage, in 1/1024 mm (R25). -/
def chainageMax : Int := 140737488355327

/-- A chainage held within 48 bits (R25). -/
def holdChainage (x : Int) : Int :=
  clampInt chainageMin chainageMax x

/-- The reported chainage in mm: divided by 1024 and rounded toward minus infinity (R25). -/
def reportedChainage (chainage : Int) : Int :=
  chainage / 1024

/-- The reported chainage as records, notices, DETAIL and the position block carry it (R25). -/
def carriedChainage (chainage : Int) : Word :=
  signedWord (carried32 (reportedChainage chainage))

/-- The station number of a chainage for the pitch `p` (R26): rounded toward minus infinity. -/
def stationNumber (p : Nat) (chainage : Int) : Int :=
  reportedChainage chainage / (p : Int)

/-- `x` is more advanced than, or ahead of, `y` in the declared direction (R27). -/
def Direction.ahead (d : Direction) (x y : Int) : Bool :=
  match d with
  | .forward => decide (y < x)
  | .backward => decide (x < y)

/-- The pair of levels that forward rotation leads to from a line reference (para 2.2). -/
def Levels.forwardNext (l : Levels) : Levels :=
  match l.line1, l.line2 with
  | false, false => { line1 := true, line2 := false }
  | true, false => { line1 := true, line2 := true }
  | true, true => { line1 := false, line2 := true }
  | false, true => { line1 := false, line2 := false }

/-- What a change of the odometer lines is against the line reference (R23, R24). -/
inductive StepKind where
  | unchanged | forward | reverse | illegal
  deriving DecidableEq, Repr

def stepKind (reference now : Levels) : StepKind :=
  if now = reference then .unchanged
  else if now = reference.forwardNext then .forward
  else if reference = now.forwardNext then .reverse
  else .illegal

/-- What a valid step adds to the chainage, in 1/1024 mm (R23). -/
def stepShift (c : Calibration) (kind : StepKind) : Int :=
  match kind, c.countSign with
  | .forward, .positive => (c.countPitch : Int)
  | .forward, .negative => -(c.countPitch : Int)
  | .reverse, .positive => -(c.countPitch : Int)
  | .reverse, .negative => (c.countPitch : Int)
  | .unchanged, _ => 0
  | .illegal, _ => 0

/-! ### Cant (chapter 3) -/

/-- The sign of a value put on a magnitude. -/
def withSignOf (x : Int) (magnitude : Nat) : Int :=
  if x < 0 then -(magnitude : Int) else (magnitude : Int)

/-- The cant in use, found from the cant history (R48): 0 for an empty history, else the mean rounded half away from
zero and clamped to -1500..+1500 centidegrees. -/
def cantInUse (history : List Int) : Int :=
  match history with
  | [] => 0
  | _ :: _ =>
    let s := history.foldl (· + ·) 0
    let n := history.length
    clampInt (-1500) 1500 (withSignOf s ((2 * s.natAbs + n) / (2 * n)))

/-- The cant angle offset C in angle units, half away from zero (R49). -/
def cantAngleOffset (cant : Int) : Int :=
  withSignOf cant ((cant.natAbs * 4096 + 18000) / 36000)

/-! ### Correction of a sample (R51 to R55) -/

/-- The sector of an angle 0..4095: the angle divided by 16. -/
def sectorOfAngle (angle : Int) : Sector :=
  Fin.ofNat 256 (angle.toNat / 16)

/-- The rail angle: latency trim, then mount roll trim, each modulo 4096 (R51). -/
def railAngle (c : Calibration) (angle : BitVec 12) : Int :=
  (((angle.toNat : Int) + ((c.trimCode : Int) - 8)) % 4096 + c.mountRoll) % 4096

/-- The corrected range: the range plus Z, clamped to 1..16383 (R52). -/
def correctedRange (c : Calibration) (range : BitVec 14) : Nat :=
  (clampInt 1 16383 ((range.toNat : Int) + c.zeroOffset)).toNat

/-- The three quantities a valid sample yields (R56). -/
structure Corrected where
  railSector : Sector
  levelSector : Sector
  range : Nat
  deriving DecidableEq, Repr

/-- A sample corrected and judged (R52 to R55): none when it is invalid. -/
def correctSample (c : Calibration) (floor : Nat) (cantOffset : Int) (x : Sample) : Option Corrected :=
  if x.range = 0 then none
  else
    let a := railAngle c x.angle
    let r := correctedRange c x.range
    if floor ≤ x.strength.toNat ∧ c.rmin ≤ r ∧ r ≤ c.rmax ∧ c.mask.getLsbD (sectorOfAngle a).val = false then
      some { railSector := sectorOfAngle a, levelSector := sectorOfAngle ((a + cantOffset) % 4096), range := r }
    else none

/-! ### Folding (R65, R66) -/

/-- A corrected range folded into a rail cell (R65). -/
def RailCell.fold (cell : RailCell) (r : Nat) : RailCell :=
  let count := if cell.count < 65535 then cell.count + 1 else cell.count
  if r < cell.least then { count := count, least := r, second := cell.least }
  else if r < cell.second then { count := count, least := cell.least, second := r }
  else { count := count, least := cell.least, second := cell.second }

/-- A corrected range folded into a level cell (R66). -/
def LevelCell.fold (cell : LevelCell) (r : Nat) : LevelCell :=
  if cell.count < 65535 then { count := cell.count + 1, sum := cell.sum + r } else cell

/-- One stored sample corrected, judged and, where valid, folded into a bank's cells (R56). -/
def Bank.foldSample (c : Calibration) (floor : Nat) (cantOffset : Int) (b : Bank) (x : Sample) : Bank :=
  match correctSample c floor cantOffset x with
  | none => b
  | some q =>
    { b with
      rail := b.rail.set q.railSector.val ((b.rail.get q.railSector).fold q.range)
      level := b.level.set q.levelSector.val ((b.level.get q.levelSector).fold q.range) }

/-- The samples of a revolution folded in the order they were stored (R64). -/
def Bank.foldSamples (c : Calibration) (floor : Nat) (cantOffset : Int) (b : Bank) (xs : List Sample) : Bank :=
  xs.foldl (fun b x => b.foldSample c floor cantOffset x) b

/-! ### Words read from the survey memory (chapter 11) -/

/-- Word `i` of a structure read. -/
def wordAt (ws : List Word) (i : Nat) : Word :=
  ws.getD i 0

/-- An unsigned word field, judged whole (R178). -/
def natAt (ws : List Word) (i : Nat) : Nat :=
  (wordAt ws i).toNat

/-- A signed word field, judged whole (R178). -/
def intAt (ws : List Word) (i : Nat) : Int :=
  (wordAt ws i).toInt

/-- Half-word `i` of a structure read, counted from the start of word `base`: the even one is bits 15..0. -/
def halfAt (ws : List Word) (base i : Nat) : Nat :=
  ((wordAt ws (base + i / 2)).extractLsb' (16 * (i % 2)) 16).toNat

/-- A check of a field: the offset given when it fails, and whether it holds. -/
abbrev FieldCheck := Nat × Bool

/-- The offset of the first check that fails, in the order listed. -/
def firstFailing : List FieldCheck → Option Nat
  | [] => none
  | (offset, holds) :: rest => if holds then firstFailing rest else some offset

/-- `lo ≤ x ≤ hi` for a signed field. -/
def within (lo hi x : Int) : Bool :=
  decide (lo ≤ x) && decide (x ≤ hi)

/-! ### The calibration block (para 7.1, para 11.3, R113) -/

/-- The length of the calibration block in bytes. -/
def calibrationLength : Nat := 88

def directionOf (code : Nat) : Direction :=
  if code = 1 then .backward else .forward

def countSignOf (code : Nat) : CountSign :=
  if code = 1 then .negative else .positive

/-- The 256-bit sector mask of the words at 56..84: bit s mod 32 of word s div 32. -/
def maskOf (ws : List Word) : BitVec 256 :=
  wordAt ws 21 ++ wordAt ws 20 ++ wordAt ws 19 ++ wordAt ws 18 ++ wordAt ws 17 ++ wordAt ws 16 ++ wordAt ws 15 ++
    wordAt ws 14

/-- The calibration fields of a calibration block. -/
def readCalibration (ws : List Word) : Calibration :=
  { direction := directionOf (natAt ws 0), countSign := countSignOf (natAt ws 1), countPitch := natAt ws 2,
    startChainage := intAt ws 3, stationPitch := natAt ws 4, hysteresis := natAt ws 5, trimCode := natAt ws 6,
    mountRoll := intAt ws 7, zeroOffset := intAt ws 8, rmin := natAt ws 9, rmax := natAt ws 10, nmin := natAt ws 11,
    nmax := natAt ws 12, cantZero := intAt ws 13, mask := maskOf ws }

/-- The range checks of the calibration block in ascending order of offset (R113). -/
def calibrationChecks (ws : List Word) : List FieldCheck :=
  [ (0, within 0 1 (natAt ws 0)), (4, within 0 1 (natAt ws 1)), (8, within 1 65535 (natAt ws 2)),
    (16, within 100 10000 (natAt ws 4)), (20, within 20 1000 (natAt ws 5)), (24, within 0 15 (natAt ws 6)),
    (28, within (-64) 63 (intAt ws 7)), (32, within (-512) 511 (intAt ws 8)), (36, within 100 2000 (natAt ws 9)),
    (40, within ((natAt ws 9 : Int) + 1) 16383 (natAt ws 10)), (44, within 256 8192 (natAt ws 11)),
    (48, within (natAt ws 11) 8192 (natAt ws 12)), (52, within (-4500) 4500 (intAt ws 13)) ]

/-! ### The plan (para 7.2, para 11.3, R114 to R116, R180) -/

/-- The length of the plan header in bytes, and the words of it. -/
def planHeaderLength : Nat := 88

def planMark : Word := 0x4E36A002

/-- The six fault codes of para 7.3. -/
inductive FaultCode where
  | badMark | badCount | badSpan | badOrder | badRef | badRange
  deriving DecidableEq, Repr

def FaultCode.number : FaultCode → Nat
  | .badMark => 1
  | .badCount => 2
  | .badSpan => 3
  | .badOrder => 4
  | .badRef => 5
  | .badRange => 6

/-- A refusal: its code and the area offset at which the fault was found (R116). -/
abbrev SetupRefusal := FaultCode × Nat

/-- The counts of a plan header. -/
def zoneCount (ws : List Word) : Nat := natAt ws 2
def bandCount (ws : List Word) : Nat := natAt ws 3
def templateCount (ws : List Word) : Nat := natAt ws 4
def markerCount (ws : List Word) : Nat := natAt ws 5

/-- The length of the whole plan in bytes, from its counts (R180). -/
def planLength (ws : List Word) : Nat :=
  88 + 36 * zoneCount ws + 12 * bandCount ws + 512 * templateCount ws + 8 * markerCount ws

/-- The word at which each array of a plan begins (R180). -/
def zoneWord (i : Nat) : Nat := 22 + 9 * i
def bandWord (ws : List Word) (i : Nat) : Nat := 22 + 9 * zoneCount ws + 3 * i
def templateWord (ws : List Word) (i : Nat) : Nat := 22 + 9 * zoneCount ws + 3 * bandCount ws + 128 * i
def markerWord (ws : List Word) (i : Nat) : Nat :=
  22 + 9 * zoneCount ws + 3 * bandCount ws + 128 * templateCount ws + 2 * i

/-- The count checks of a plan header, by offset (R114). -/
def countChecks (ws : List Word) : List FieldCheck :=
  [ (8, decide (zoneCount ws ≤ 64)), (12, decide (bandCount ws ≤ 8)),
    (16, decide (1 ≤ templateCount ws ∧ templateCount ws ≤ 8)), (20, decide (markerCount ws ≤ 128)),
    (56, decide (natAt ws 14 ≤ 65535)) ]

/-- The three checks made on a plan header at the offset `q`, in their order (R114, R116). Where both the plan's extent and
its baseline table fail, BAD_SPAN is given with the plan offset, the cases being judged in the order of R114's sentence
(DESIGN CHOICE, assumption 26). -/
def planHeaderRefusal (areaSize q : Nat) (ws : List Word) : Option SetupRefusal :=
  if wordAt ws 0 ≠ planMark then some (.badMark, q)
  else
    match firstFailing (countChecks ws) with
    | some field => some (.badCount, q + field)
    | none =>
      if areaSize < q + planLength ws then some (.badSpan, q)
      else if 1 ≤ natAt ws 14 ∧ (natAt ws 12 % 4 ≠ 0 ∨ areaSize < natAt ws 12 + 520 * natAt ws 14) then
        some (.badSpan, q + 48)
      else none

/-- BAD_ORDER: zones whose start is not less than their end or lies before the end of the zone before; band limits and
marker identifiers not strictly ascending (R115). -/
def orderChecks (ws : List Word) : List FieldCheck :=
  (List.range (zoneCount ws)).map (fun i =>
      (4 * zoneWord i,
        decide (intAt ws (zoneWord i) < intAt ws (zoneWord i + 1)) &&
          (i == 0 || decide (intAt ws (zoneWord (i - 1) + 1) ≤ intAt ws (zoneWord i))))) ++
  (List.range (bandCount ws)).map (fun i =>
      (4 * bandWord ws i, i == 0 || decide (natAt ws (bandWord ws (i - 1)) < natAt ws (bandWord ws i)))) ++
  (List.range (markerCount ws)).map (fun i =>
      (4 * markerWord ws i, i == 0 || decide (natAt ws (markerWord ws (i - 1)) < natAt ws (markerWord ws i))))

/-- BAD_REF: a template index not less than the template count (R115). -/
def referenceChecks (ws : List Word) : List FieldCheck :=
  (24, decide (natAt ws 6 < templateCount ws)) ::
  (List.range (bandCount ws)).flatMap (fun i =>
      [ (4 * bandWord ws i + 4, decide (natAt ws (bandWord ws i + 1) < templateCount ws)),
        (4 * bandWord ws i + 8, decide (natAt ws (bandWord ws i + 2) < templateCount ws)) ])

/-- The range checks of the seven parameter words beginning at word `w` (R80, para 7.2). -/
def parameterChecks (ws : List Word) (w : Nat) : List FieldCheck :=
  [ (4 * w, within (-32767) 32767 (intAt ws w)), (4 * w + 4, within (-500) 500 (intAt ws (w + 1))),
    (4 * w + 8, within 0 2000 (natAt ws (w + 2))), (4 * w + 12, within 1 1000 (natAt ws (w + 3))),
    (4 * w + 16, within 0 63 (natAt ws (w + 4))), (4 * w + 20, within 0 1 (natAt ws (w + 5))),
    (4 * w + 24, within 0 1 (natAt ws (w + 6))) ]

/-- BAD_RANGE: every field of the header, of the defaults and of the arrays, in ascending order of offset (R115). -/
def rangeChecks (ws : List Word) : List FieldCheck :=
  [ (4, within 0 65535 (natAt ws 1)), (28, within 0 2000 (natAt ws 7)), (32, within 0 255 (natAt ws 8)),
    (36, within 1 255 (natAt ws 9)), (40, within 0 256 (natAt ws 10)), (44, within 0 255 (natAt ws 11)) ] ++
  parameterChecks ws 15 ++
  (List.range (zoneCount ws)).flatMap (fun i => parameterChecks ws (zoneWord i + 2)) ++
  (List.range (bandCount ws)).map (fun i => (4 * bandWord ws i, within 1 32767 (natAt ws (bandWord ws i)))) ++
  (List.range (templateCount ws)).flatMap (fun i =>
      (List.range 256).map (fun s => (4 * templateWord ws i + 2 * s, within 0 16383 (halfAt ws (templateWord ws i) s)))) ++
  (List.range (markerCount ws)).map (fun i => (4 * markerWord ws i, within 1 65535 (natAt ws (markerWord ws i))))

/-- The three checks made over the header and the arrays of a plan at the offset `q`, in their order (R115, R116). -/
def planArraysRefusal (q : Nat) (ws : List Word) : Option SetupRefusal :=
  match firstFailing (orderChecks ws) with
  | some field => some (.badOrder, q + field)
  | none =>
    match firstFailing (referenceChecks ws) with
    | some field => some (.badRef, q + field)
    | none =>
      match firstFailing (rangeChecks ws) with
      | some field => some (.badRange, q + field)
      | none => none

def reportModeOf (code : Nat) : ReportMode :=
  if code = 1 then .full else .exceptions

/-- The seven parameter words beginning at word `w`. -/
def readParameters (ws : List Word) (w : Nat) : ZoneParameters :=
  { radius := intAt ws w, tolerance := intAt ws (w + 1), warn := natAt ws (w + 2), deformLimit := natAt ws (w + 3),
    floor := natAt ws (w + 4), mode := reportModeOf (natAt ws (w + 5)), baselineUse := decide (natAt ws (w + 6) = 1) }

/-- The tables of a plan whose header and arrays are `ws`, with the first so many entries of each array. -/
def readTables (ws : List Word) (zones bands templates markers : Nat) : PlanTables :=
  { straight := natAt ws 6, snapWindow := natAt ws 7, kr := natAt ws 8, km := natAt ws 9, blindLimit := natAt ws 10,
    closeAfter := natAt ws 11,
    baseline := { offset := natAt ws 12, first := intAt ws 13, count := natAt ws 14 },
    defaults := readParameters ws 15,
    zones := (List.range zones).map (fun i =>
      { first := intAt ws (zoneWord i), past := intAt ws (zoneWord i + 1),
        parameters := readParameters ws (zoneWord i + 2) }),
    bands := (List.range bands).map (fun i =>
      { limit := natAt ws (bandWord ws i), left := natAt ws (bandWord ws i + 1),
        right := natAt ws (bandWord ws i + 2) }),
    templates := (List.range templates).map (fun i =>
      (List.range 256).map (fun s => halfAt ws (templateWord ws i) s)),
    markers := (List.range markers).map (fun i =>
      { ident := natAt ws (markerWord ws i), chainage := intAt ws (markerWord ws i + 1) }) }

/-- The tables of a whole plan. -/
def readPlan (ws : List Word) : PlanTables :=
  readTables ws (zoneCount ws) (bandCount ws) (templateCount ws) (markerCount ws)

/-- The tables of a plan of which the words `ws` have arrived, its header among them: the parameters of the header, and of
each array the entries whose last word has arrived (R114; DESIGN CHOICE as to how much at each burst, assumption 22). -/
def readArrived (ws : List Word) : PlanTables :=
  readTables ws (min (zoneCount ws) ((ws.length - zoneWord 0) / 9)) (min (bandCount ws) ((ws.length - bandWord ws 0) / 3))
    (min (templateCount ws) ((ws.length - templateWord ws 0) / 128))
    (min (markerCount ws) ((ws.length - markerWord ws 0) / 2))

/-- The index of the zone that covers a nominal low edge, in mm (R59); none is DEFAULT. -/
def PlanTables.zoneAt (p : PlanTables) (edge : Int) : Option Nat :=
  p.zones.findIdx? (fun z => decide (z.first ≤ edge) && decide (edge < z.past))

/-- The parameters in force for a zone index: the zone's, or the defaults where it is DEFAULT (R80). -/
def PlanTables.parametersFor (p : PlanTables) (zone : Option Nat) : ZoneParameters :=
  match zone with
  | none => p.defaults
  | some i =>
    match p.zones[i]? with
    | some z => z.parameters
    | none => p.defaults

/-- The template selected by the curve radius R in force (R82). -/
def PlanTables.templateFor (p : PlanTables) (radius : Int) : Nat :=
  if radius = 0 then p.straight
  else
    match p.bands.find? (fun b => decide (radius.natAbs ≤ b.limit)) with
    | some b => if radius < 0 then b.left else b.right
    | none => p.straight

/-- The radius of a template for a rail sector. -/
def PlanTables.templateRadius (p : PlanTables) (template : Nat) (s : Sector) : Nat :=
  (p.templates.getD template []).getD s.val 0

/-! ### The area header (para 11.2, R165) -/

def areaMark : Word := 0x4E36A001

/-- The length of the area header in bytes (para 11.2). -/
def areaHeaderLength : Nat := 168

/-- The checks of the six leading fields against the AREA base, in their order (R165). -/
def areaHeaderRefusal (area : Word) (ws : List Word) : Option SetupRefusal :=
  let size := natAt ws 1
  let calibration := natAt ws 2
  let n := natAt ws 3
  let s := natAt ws 4
  let base := natAt ws 5
  if wordAt ws 0 ≠ areaMark then some (.badMark, 0)
  else if n < 2 ∨ 16 < n then some (.badCount, 12)
  else
    match firstFailing
      [ (4, decide (size % 4 = 0 ∧ areaHeaderLength ≤ size ∧ area.toNat + size ≤ 4294967296)),
        (8, decide (calibration % 4 = 0)), (20, decide (base % 4 = 0)), (20, decide (areaHeaderLength ≤ base)),
        (20, decide (base + n * s ≤ size)) ] with
    | some field => some (.badSpan, field)
    | none =>
      if s < 4096 ∨ 65536 < s ∨ s % 4096 ≠ 0 then some (.badRange, 16) else none

/-- The area geometry of the six leading fields. -/
def readGeometry (ws : List Word) : Geometry :=
  { areaSize := natAt ws 1, calibrationOffset := natAt ws 2, sheetCount := natAt ws 3, sheetSize := natAt ws 4,
    sheetBase := natAt ws 5 }

end Sys2Proof.Machine
end

