-- ==== Sys2Proof/Machine/Flags.lean ====
section
/-! DEFINITION. Every flag and code the part shows: the eleven station flags as the STATION record carries them
(para 11.6), the notice that NOTICE presents with its flag and particulars (R149, R157), the interrupt line (R159), and
what a read of each register of the window returns (para 10.1). -/
namespace Sys2Proof.Machine

/-! ### Station flags (para 11.6, word 32, bits 10..0) -/

def boolBit (b : Bool) : BitVec 1 :=
  if b then 1 else 0

/-- Bit 0 THIN, 1 POOR_COVER, 2 CANT_HELD, 3 WINDOW, 4 SNAPPED, 5 STRETCHED, 6 CUT_SHORT, 7 ODO, 8 DEFAULT_ZONE,
9 NO_BASELINE, 10 BASE_MISMATCH. -/
def StationFlags.bits (f : StationFlags) : BitVec 11 :=
  boolBit f.baseMismatch ++ boolBit f.noBaseline ++ boolBit f.defaultZone ++ boolBit f.odo ++ boolBit f.cutShort ++
    boolBit f.stretched ++ boolBit f.snapped ++ boolBit f.window ++ boolBit f.cantHeld ++ boolBit f.poorCover ++
    boolBit f.thin

/-! ### The notice presented (R149) -/

/-- The eleven kinds of notice, in priority order. -/
inductive NoticeKind where
  | fault | linkFault | alert | sheetStarved | markerMismatch | cantFault | setupFault | planTaken | reversal
  | stopped | sheetReady
  deriving DecidableEq, Repr

def NoticeKind.number : NoticeKind → Nat
  | .fault => 1
  | .linkFault => 2
  | .alert => 3
  | .sheetStarved => 4
  | .markerMismatch => 5
  | .cantFault => 6
  | .setupFault => 7
  | .planTaken => 8
  | .reversal => 9
  | .stopped => 10
  | .sheetReady => 11

/-- A notice as it stands: its kind, its flag (MORE or DISPLACED), its argument and its particulars. -/
structure Notice where
  kind : NoticeKind
  flag : Bool
  argument : BitVec 24
  particulars : Word
  deriving DecidableEq, Repr

/-- The low 24 bits of a signed argument (R149). -/
def signedArgument (x : Int) : BitVec 24 :=
  BitVec.ofInt 24 x

/-- A last good revolution number as an argument: 0xFFFFFF where there is none (R16). -/
def revolutionArgument (r : Option (BitVec 16)) : BitVec 24 :=
  match r with
  | some n => n.setWidth 24
  | none => 0xFFFFFF

/-- A last good revolution number as particulars: 0xFFFFFF where there is none (R18). -/
def revolutionParticulars (r : Option (BitVec 16)) : Word :=
  (revolutionArgument r).setWidth 32

def FaultCause.code : FaultCause → BitVec 24
  | .bus => 1
  | .link => 2

/-- The middle byte of an alert's particulars: ENCROACH its worst sector, DEFORM its deform count limited to 255. -/
def Alert.middle (a : Alert) : Nat :=
  match a.kind with
  | .encroach => a.worstSector.getD 0
  | .deform => min 255 a.deformCount

/-- The maximum deviation in the low byte of an alert's particulars: limited to -127..+127, -128 when absent. -/
def Alert.deviationByte (a : Alert) : Int :=
  match a.maxDeviation with
  | some d => clampInt (-127) 127 d
  | none => -128

/-- An alert entry packed for DETAIL (R157). -/
def Alert.packed (a : Alert) : Word :=
  signed16 a.worstMargin ++ BitVec.ofNat 8 a.middle ++ BitVec.ofInt 8 a.deviationByte

/-- The notice a single latch holds. -/
def latchNotice (kind : NoticeKind) (l : NoticeLatch) : Notice :=
  { kind := kind, flag := l.more, argument := l.argument, particulars := l.particulars }

/-- The pending kinds in priority order, each with what it holds (R149). -/
def NoticeUnit.pendingNotices (n : NoticeUnit) : List Notice :=
  (n.fault.map (fun l => { kind := .fault, flag := false, argument := l.cause.code, particulars := l.particulars })).toList ++
  (n.linkFault.map (fun l => { kind := .linkFault, flag := false, argument := l.argument, particulars := l.particulars })).toList ++
  (n.alerts.head?.map (fun a =>
    { kind := .alert, flag := n.displaced, argument := signedArgument a.station, particulars := a.packed })).toList ++
  (n.starved.map (fun p => { kind := .sheetStarved, flag := false, argument := 0, particulars := p })).toList ++
  (n.markerMismatch.map (latchNotice .markerMismatch)).toList ++
  (n.cantFault.map (latchNotice .cantFault)).toList ++
  (n.setupFault.map (latchNotice .setupFault)).toList ++
  (n.planTaken.map (latchNotice .planTaken)).toList ++
  (n.reversal.map (latchNotice .reversal)).toList ++
  (n.stopped.map (latchNotice .stopped)).toList ++
  (n.unannounced.head?.map (fun k =>
    { kind := .sheetReady, flag := false, argument := BitVec.ofNat 24 k,
      particulars := natWord (n.unannounced.length - 1) })).toList

/-- The pending kind of highest priority, or NONE. -/
def NoticeUnit.presented (n : NoticeUnit) : Option Notice :=
  n.pendingNotices.head?

/-- The kind byte of a notice: its number, with 128 added when its flag is set. -/
def Notice.kindByte (x : Notice) : BitVec 8 :=
  BitVec.ofNat 8 (x.kind.number + if x.flag then 128 else 0)

/-- What NOTICE reads (R149). -/
def NoticeUnit.value (n : NoticeUnit) : Word :=
  match n.presented with
  | some x => x.kindByte ++ x.argument
  | none => 0

/-! ### The interrupt line and the register window -/

/-- The interrupt line is asserted while the enable is set and NOTICE does not read NONE (R159). -/
def State.interruptLine (s : State) : Bool :=
  s.control.interruptEnable && s.notices.presented.isSome

def Survey.code : Survey → BitVec 8
  | .idle => 0
  | .starting => 1
  | .running => 2
  | .stopping => 3
  | .faulted => 4

def PostResult.code : PostResult → BitVec 8
  | .ok => 0
  | .badState => 1
  | .badArg => 2

/-- What POST reads: bits 31..24 the kind of the last post, 15..8 its result, 7..0 the survey state (para 10.1). -/
def State.postValue (s : State) : Word :=
  s.control.lastKind ++ (0 : BitVec 8) ++ s.control.lastResult.code ++ s.control.survey.code

/-- What a read of a register of the window returns, by byte offset (para 10.1, R162). None where there is none. -/
def State.registerValue (s : State) (offset : Nat) : Option Word :=
  match offset with
  | 0x00 => some 0x06200001
  | 0x04 => some ((boolBit s.control.interruptEnable).setWidth 32)
  | 0x08 => some s.control.area
  | 0x0C => some s.postValue
  | 0x10 => some s.notices.value
  | 0x14 => some s.notices.detail
  | _ => none

end Sys2Proof.Machine
end

