-- ==== Sys2Proof/Machine/Records.lean ====
section
/-! DEFINITION. The structures the part writes into the survey memory, word by word: records of every kind (para 11.5,
para 11.6, R182, R183), the sheet header and the roster entry (para 11.2, para 11.4). -/
namespace Sys2Proof.Machine

/-! ### The common header (para 11.5, R131) -/

def RecordKind.code : RecordKind → BitVec 8
  | .station => 1
  | .marker => 2
  | .plan => 3
  | .reversal => 4
  | .resume => 5
  | .link => 6
  | .finish => 7

/-- A station-kind record (R131). -/
def RecordKind.isStation : RecordKind → Bool
  | .station => true
  | .marker => false
  | .plan => false
  | .reversal => false
  | .resume => false
  | .link => false
  | .finish => false

/-- An END record. -/
def RecordKind.isEnd : RecordKind → Bool
  | .finish => true
  | .station => false
  | .marker => false
  | .plan => false
  | .reversal => false
  | .resume => false
  | .link => false

/-- The length of a record in words, the common header included (R131). -/
def Record.length (r : Record) : Nat :=
  2 + r.body.length

/-- The words of a queued record, as they are written into the sheet (R182). -/
def Queued.words (q : Queued) : List Word :=
  (BitVec.ofNat 16 q.record.length ++ q.record.flags ++ q.record.kind.code) ::
    (q.record.reserved ++ BitVec.ofNat 16 q.lostBefore) :: q.record.body

/-! ### The short records (para 11.5) -/

def boolByte (b2 b1 b0 : Bool) : BitVec 8 :=
  (0 : BitVec 5) ++ boolBit b2 ++ boolBit b1 ++ boolBit b0

/-- A MARKER record (R38, R40, R41): the true chainage and e are absent when the marker is unknown. -/
def markerRecord (ident : BitVec 16) (measured : Int) (truth : Option Int) (snapped crowded : Bool) : Record :=
  { kind := .marker, flags := boolByte crowded truth.isNone snapped, reserved := 0,
    body := [ ident.setWidth 32, signedWord (carried32 measured), signedWord (truth.getD (-2147483648)),
              signedWord (match truth with
                | some t => carried32 (t - carried32 measured)
                | none => -2147483648) ] }

/-- The cause of a PLAN record. -/
inductive PlanCause where
  | start | switch
  deriving DecidableEq, Repr

def PlanCause.code : PlanCause → BitVec 8
  | .start => 1
  | .switch => 2

def SetId.code : SetId → BitVec 8
  | .x => 0
  | .y => 1

/-- A PLAN record (R125). -/
def planRecord (cause : PlanCause) (set : SetId) (generation offset : Nat) (station : Int) (chainage : Int) : Record :=
  { kind := .plan, flags := 0, reserved := 0,
    body := [ cause.code ++ set.code ++ BitVec.ofNat 16 generation, natWord offset, signedWord station,
              carriedChainage chainage ] }

/-- A REVERSAL record (R33). -/
def reversalRecord (station : Int) (chainage peak : Int) : Record :=
  { kind := .reversal, flags := 0, reserved := 0,
    body := [ signedWord station, carriedChainage chainage, carriedChainage peak ] }

/-- A RESUME record (R35). -/
def resumeRecord (station : Int) (chainage : Int) : Record :=
  { kind := .resume, flags := 0, reserved := 0, body := [ signedWord station, carriedChainage chainage ] }

/-- The cause of a LINK record. -/
inductive LinkCause where
  | timeout | halt
  deriving DecidableEq, Repr

def LinkCause.code : LinkCause → Nat
  | .timeout => 1
  | .halt => 2

/-- A LINK record (R17). -/
def linkRecord (cause : LinkCause) (lastGood : Option (BitVec 16)) (runFaults : Nat) (chainage : Int) : Record :=
  { kind := .link, flags := boolByte false false lastGood.isNone, reserved := 0,
    body := [ natWord cause.code, BitVec.ofNat 16 runFaults ++ lastGood.getD 0, carriedChainage chainage ] }

def StopMode.code : StopMode → BitVec 8
  | .unset => 0
  | .finish => 1
  | .drop => 2

/-- The first body word of END: run lost total above the END status, stop mode above cleared count (para 11.5). -/
def endWord (mode : StopMode) (cleared : Nat) (runLost : BitVec 16) : Word :=
  runLost ++ mode.code ++ BitVec.ofNat 8 cleared

/-- An END record (R134). -/
def endRecord (mode : StopMode) (cleared runLost : Nat) (chainage : Int) : Record :=
  { kind := .finish, flags := 0, reserved := 0,
    body := [ endWord mode cleared (BitVec.ofNat 16 runLost), carriedChainage chainage ] }

/-- An admitted END of FINISH escalated by STOP_DROP: its stop mode and cleared count change, no other field (R145,
R182). -/
def Queued.escalate (cleared : Nat) (q : Queued) : Queued :=
  if q.record.kind.isEnd then
    { q with record := { q.record with
        body := match q.record.body with
          | w :: rest => endWord .drop cleared (w.extractLsb' 16 16) :: rest
          | [] => [] } }
  else q

/-! ### STATION records (para 11.6, R73, R183) -/

inductive StationOutcome where
  | evaluated | empty | abandoned
  deriving DecidableEq, Repr

def StationOutcome.code : StationOutcome → BitVec 2
  | .evaluated => 1
  | .empty => 2
  | .abandoned => 3

def RailClass.code : RailClass → BitVec 8
  | .masked => 0
  | .ungauged => 1
  | .blind => 2
  | .encroach => 3
  | .near => 4
  | .clear => 5

def LevelStatus.code : LevelStatus → BitVec 8
  | .noBase => 0
  | .none => 1
  | .steady => 2
  | .deform => 3

/-- A sector entry of a STATION record (R107). -/
structure SectorEntry where
  sector : Nat
  rail : RailResult
  level : LevelResult
  deriving DecidableEq, Repr

/-- The two words of a sector entry (para 11.6). -/
def SectorEntry.words (e : SectorEntry) : List Word :=
  [ (0 : BitVec 8) ++ e.level.status.code ++ e.rail.cls.code ++ BitVec.ofNat 8 e.sector,
    signed16 e.level.deviation ++ signed16 e.rail.margin ]

/-- The zone index field: 127 for DEFAULT. -/
def zoneField (zone : Option Nat) : BitVec 7 :=
  BitVec.ofNat 7 (zone.getD 127)

/-- A STATION record of any outcome: the bank's context (R73), the summary (R108) and the entries. -/
def stationRecord (outcome : StationOutcome) (b : Bank) (template : Nat) (summary : ClearanceSummary)
    (deformCount : Nat) (maxDeviation : Option Int) (entries : List SectorEntry) : Record :=
  { kind := .station,
    flags := (0 : BitVec 5) ++ boolBit summary.worstMargin.isSome ++ outcome.code,
    reserved := BitVec.ofNat 16 ((b.planReference.map PlanReference.generation).getD 0),
    body :=
      [ signedWord b.first, signedWord (carried32 b.startChainage), signedWord (carried32 (b.endChainage.getD 0)),
        BitVec.ofNat 16 b.discarded ++ BitVec.ofNat 16 b.committed,
        signed16 (summary.worstSector.map Int.ofNat) ++ signed16 summary.worstMargin,
        zoneField b.zone ++ BitVec.ofNat 9 entries.length ++ signed16 maxDeviation,
        BitVec.ofNat 3 template ++ BitVec.ofNat 9 summary.near ++ BitVec.ofNat 9 summary.encroach ++ b.flags.bits,
        (0 : BitVec 6) ++ BitVec.ofNat 8 b.span ++ BitVec.ofNat 9 deformCount ++ BitVec.ofNat 9 summary.blind ] ++
      entries.flatMap SectorEntry.words }

/-- The STATION record of an EMPTY or ABANDONED station: no summary and no entries (R183). -/
def bareStationRecord (outcome : StationOutcome) (b : Bank) : Record :=
  stationRecord outcome b 0 .start 0 none []

/-! ### Sheet headers and roster entries (para 11.2, para 11.4) -/

/-- The four words of a sheet header at the opening of a filling: bytes used 16, record count 0 (R137). -/
def sheetHeaderWords (sheet generation sequence : Nat) : List Word :=
  [ BitVec.ofNat 16 generation ++ BitVec.ofNat 16 sheet, natWord sequence, 16, 0 ]

inductive RosterCode where
  | held | queued | filling | closed
  deriving DecidableEq, Repr

def RosterCode.number : RosterCode → Nat
  | .held => 0
  | .queued => 1
  | .filling => 2
  | .closed => 3

/-- The burst of a roster entry: code and sequence number together (R179). -/
def rosterBurst (sheet : Nat) (code : RosterCode) (sequence : Nat) (purpose : Purpose) : Burst :=
  { offset := 40 + 8 * sheet, transfer := .write [natWord code.number, natWord sequence], purpose := purpose }

/-- The bursts of at most 64 bytes that write or read a run of words from an offset, in ascending order (R175). The
fuel is at least the number of bursts. -/
def writeBursts (purpose : Purpose) (offset : Nat) (words : List Word) : Nat → List Burst
  | 0 => []
  | fuel + 1 =>
    match words with
    | [] => []
    | _ :: _ =>
      { offset := offset, transfer := .write (words.take 16), purpose := purpose } ::
        writeBursts purpose (offset + 64) (words.drop 16) fuel

end Sys2Proof.Machine
end

