-- ==== Sys2Proof/Machine/Ops.lean ====
section
/-! DEFINITION. The named operations the commands are made of, block by block in the order they build on one another:
the survey memory, notices (chapter 9), bursts and grants (R175 to R177), the Sheet Writer (chapter 8), plan sets and
loads (chapter 7), the banks (chapter 4) and what one event brings about when it ends. Taking a fault of the survey
(R173) and a reset (R174) are operations of their own. -/
namespace Sys2Proof.Machine

/-! ### The survey memory (R175, R178) -/

/-- The byte of the survey memory the part last wrote at a bus address; none where it has written none. -/
def Memory.read (m : Memory) (a : Nat) : Option Byte :=
  match m with
  | [] => none
  | (k, b) :: rest => if k = a then some b else Memory.read rest a

/-- One byte written: the cells stay in strictly rising order of address. -/
def Memory.write (m : Memory) (a : Nat) (b : Byte) : Memory :=
  match m with
  | [] => [(a, b)]
  | (k, c) :: rest =>
    if a < k then (a, b) :: (k, c) :: rest
    else if a = k then (a, b) :: rest
    else (k, c) :: Memory.write rest a b

/-- The canonical form: addresses strictly rising. -/
def Memory.wf : Memory → Bool
  | [] => true
  | [_] => true
  | (k, _) :: (l, c) :: rest => decide (k < l) && Memory.wf ((l, c) :: rest)

/-- Bytes written from an address upward. -/
def Memory.writeBytes (m : Memory) (a : Nat) : List Byte → Memory
  | [] => m
  | b :: rest => Memory.writeBytes (m.write a b) (a + 1) rest

/-- The bytes of a word, little-endian (R178). -/
def wordBytes (w : Word) : List Byte :=
  [w.extractLsb' 0 8, w.extractLsb' 8 8, w.extractLsb' 16 8, w.extractLsb' 24 8]

/-- Words written from an address upward, each little-endian (R175). -/
def Memory.writeWords (m : Memory) (a : Nat) (ws : List Word) : Memory :=
  m.writeBytes a (ws.flatMap wordBytes)

/-! ### Parts of the state by number -/

def State.bank (s : State) : BankId → Bank
  | .bank0 => s.accumulator.bank0
  | .bank1 => s.accumulator.bank1

def State.setBank (s : State) (i : BankId) (b : Bank) : State :=
  match i with
  | .bank0 => { s with accumulator := { s.accumulator with bank0 := b } }
  | .bank1 => { s with accumulator := { s.accumulator with bank1 := b } }

def BankId.other : BankId → BankId
  | .bank0 => .bank1
  | .bank1 => .bank0

/-- The OPEN bank, if there is one (para 4.1: at most one). -/
def State.openBank (s : State) : Option BankId :=
  if s.accumulator.bank0.phase = .opened then some .bank0
  else if s.accumulator.bank1.phase = .opened then some .bank1
  else none

/-- The bank still holds the station a tag names (R61). -/
def State.holdsTag (s : State) (t : Tag) : Bool :=
  decide ((s.bank t.bank).phase ≠ .free) && decide ((s.bank t.bank).openingNumber = t.opening)

def State.buffer (s : State) : BufferId → RevolutionBuffer
  | .a => s.sweep.bufferA
  | .b => s.sweep.bufferB

def State.setBuffer (s : State) (i : BufferId) (x : RevolutionBuffer) : State :=
  match i with
  | .a => { s with sweep := { s.sweep with bufferA := x } }
  | .b => { s with sweep := { s.sweep with bufferB := x } }

/-- A buffer emptied and made FREE. -/
def State.freeBuffer (s : State) (i : BufferId) : State :=
  s.setBuffer i .reset

def State.planSet (s : State) : SetId → PlanSet
  | .x => s.loader.setX
  | .y => s.loader.setY

def State.setPlanSet (s : State) (i : SetId) (p : PlanSet) : State :=
  match i with
  | .x => { s with loader := { s.loader with setX := p } }
  | .y => { s with loader := { s.loader with setY := p } }

/-- The set that carries ACTIVE, if one does. -/
def State.activeSet (s : State) : Option SetId :=
  if s.loader.setX.mark = .active then some .x
  else if s.loader.setY.mark = .active then some .y
  else none

/-- The set that carries PENDING, if one does. -/
def State.pendingSet (s : State) : Option SetId :=
  if s.loader.setX.mark = .pending then some .x
  else if s.loader.setY.mark = .pending then some .y
  else none

/-- The generation of the ACTIVE set, or 0 when none is ACTIVE (R127). -/
def State.activeGeneration (s : State) : Nat :=
  match s.activeSet with
  | some i => (s.planSet i).generation
  | none => 0

/-- The tables of the ACTIVE set; tables cleared to 0 when none is ACTIVE. -/
def State.activeTables (s : State) : PlanTables :=
  match s.activeSet with
  | some i => (s.planSet i).tables
  | none => .cleared

/-- The tables of the plan set a bank is bound to (R80). -/
def State.boundTables (s : State) (i : BankId) : PlanTables :=
  match (s.bank i).planReference with
  | some r => (s.planSet r.set).tables
  | none => .cleared

/-- The zone parameters in force for a bank's station (R59, R80). -/
def State.boundParameters (s : State) (i : BankId) : ZoneParameters :=
  (s.boundTables i).parametersFor (s.bank i).zone

/-- The calibration consulted where none is in force: every field 0. It is reached in no run, since every block that
consults the calibration works only while one is in force. -/
def Calibration.zero : Calibration :=
  { direction := .forward, countSign := .positive, countPitch := 0, startChainage := 0, stationPitch := 0,
    hysteresis := 0, trimCode := 0, mountRoll := 0, zeroOffset := 0, rmin := 0, rmax := 0, nmin := 0, nmax := 0,
    cantZero := 0, mask := 0 }

/-- The calibration in force. -/
def State.calibration (s : State) : Calibration :=
  s.loader.calibration.getD .zero

/-- The reported chainage as records carry it, now. -/
def State.chainageNow (s : State) : Word :=
  carriedChainage s.chainage.chainage

/-- The station number of the current chainage (R26). -/
def State.stationNow (s : State) : Int :=
  stationNumber s.calibration.stationPitch s.chainage.chainage

/-! ### Notices (chapter 9) -/

/-- A single latch raised: set with MORE clear, or replaced with MORE set (R153). -/
def raiseLatch (l : Option NoticeLatch) (argument : BitVec 24) (particulars : Word) : Option NoticeLatch :=
  some { argument := argument, particulars := particulars, more := l.isSome }

def State.raiseMarkerMismatch (s : State) (argument : BitVec 24) (particulars : Word) : State :=
  { s with notices := { s.notices with markerMismatch := raiseLatch s.notices.markerMismatch argument particulars } }

def State.raiseCantFault (s : State) (argument : BitVec 24) (particulars : Word) : State :=
  { s with notices := { s.notices with cantFault := raiseLatch s.notices.cantFault argument particulars } }

/-- SETUP_FAULT with the code number and the offset at which the fault was found (R117, R165). -/
def State.raiseSetupFault (s : State) (r : SetupRefusal) : State :=
  { s with notices := { s.notices with
      setupFault := raiseLatch s.notices.setupFault (BitVec.ofNat 24 r.1.number) (natWord r.2) } }

def State.raisePlanTaken (s : State) (argument : BitVec 24) (particulars : Word) : State :=
  { s with notices := { s.notices with planTaken := raiseLatch s.notices.planTaken argument particulars } }

def State.raiseReversal (s : State) (argument : BitVec 24) (particulars : Word) : State :=
  { s with notices := { s.notices with reversal := raiseLatch s.notices.reversal argument particulars } }

def State.raiseStopped (s : State) (argument : BitVec 24) (particulars : Word) : State :=
  { s with notices := { s.notices with stopped := raiseLatch s.notices.stopped argument particulars } }

/-- FAULT; ignored while its latch is set (R151). -/
def State.raiseFault (s : State) (cause : FaultCause) (particulars : Word) : State :=
  match s.notices.fault with
  | some _ => s
  | none => { s with notices := { s.notices with fault := some { cause := cause, particulars := particulars } } }

/-- LINK_FAULT (R152): it has no MORE. -/
def State.raiseLinkFault (s : State) (argument : BitVec 24) (particulars : Word) : State :=
  { s with notices := { s.notices with
      linkFault := some { argument := argument, particulars := particulars, more := false } } }

/-- SHEET_STARVED, with the number of records in the output queue (R139, R154). -/
def State.raiseStarved (s : State) : State :=
  { s with notices := { s.notices with starved := some (natWord s.sheets.queue.length) } }

/-- One alert is more severe than another (R156). -/
def Alert.moreSevere (a b : Alert) : Bool :=
  match a.kind, b.kind with
  | .encroach, .deform => true
  | .deform, .encroach => false
  | .encroach, .encroach => decide (a.worstMargin.getD 0 < b.worstMargin.getD 0)
  | .deform, .deform => decide ((b.maxDeviation.getD 0).natAbs < (a.maxDeviation.getD 0).natAbs)

/-- The index and entry of the least severe of `best` and the alerts from index `i` on; of several equally least
severe, the newest (R156). -/
def leastSevereFrom (best : Nat × Alert) (i : Nat) : List Alert → Nat × Alert
  | [] => best
  | a :: rest => leastSevereFrom (if a.moreSevere best.2 then best else (i, a)) (i + 1) rest

/-- The alert list and DISPLACED after an offer (R155, R156). -/
def offerAlertTo (alerts : List Alert) (displaced : Bool) (a : Alert) : List Alert × Bool :=
  if alerts.length < 16 then (alerts ++ [a], displaced)
  else
    match alerts with
    | [] => ([a], displaced)
    | first :: rest =>
      let least := leastSevereFrom (0, first) 1 rest
      if a.moreSevere least.2 then (alerts.eraseIdx least.1 ++ [a], true) else (alerts, true)

/-- An alert offered to the Notice Unit (R155). -/
def State.offerAlert (s : State) (a : Alert) : State :=
  let r := offerAlertTo s.notices.alerts s.notices.displaced a
  { s with notices := { s.notices with alerts := r.1, displaced := r.2 } }

/-! ### The Memory Port (R175 to R177) -/

/-- Bursts placed at the tail of a requester's queue; dropped while access is SHUT (R175, R177). -/
def State.place (s : State) (r : Requester) (bursts : List Burst) : State :=
  match s.port.access with
  | .shut => s
  | .opened =>
    match r with
    | .comparator => { s with port := { s.port with comparatorQueue := s.port.comparatorQueue ++ bursts } }
    | .writer => { s with port := { s.port with writerQueue := s.port.writerQueue ++ bursts } }
    | .control => { s with port := { s.port with controlQueue := s.port.controlQueue ++ bursts } }
    | .loader => { s with port := { s.port with loaderQueue := s.port.loaderQueue ++ bursts } }

/-- A roster write placed at the head of the Sheet Writer's queue (R143, R175). -/
def State.placeAtWriterHead (s : State) (b : Burst) : State :=
  match s.port.access with
  | .shut => s
  | .opened => { s with port := { s.port with writerQueue := b :: s.port.writerQueue } }

/-- The grant in progress given up by its requester, where it is that requester's. -/
def State.abandonGrant (s : State) (r : Requester) : State :=
  match s.port.grant with
  | some g =>
    if g.requester = r then { s with port := { s.port with grant := some { g with abandoned := true } } } else s
  | none => s

/-- The head burst of the highest-ranked requester whose queue is not empty is granted, when no grant is in progress
and access is OPEN (R176). -/
def State.arbitrate (s : State) : State :=
  match s.port.access, s.port.grant with
  | .opened, none =>
    match s.port.comparatorQueue with
    | b :: rest => { s with port := { s.port with
        comparatorQueue := rest
        grant := some { requester := .comparator, burst := b, base := s.control.area, abandoned := false } } }
    | [] =>
      match s.port.writerQueue with
      | b :: rest => { s with port := { s.port with
          writerQueue := rest
          grant := some { requester := .writer, burst := b, base := s.control.area, abandoned := false } } }
      | [] =>
        match s.port.controlQueue with
        | b :: rest => { s with port := { s.port with
            controlQueue := rest
            grant := some { requester := .control, burst := b, base := s.control.area, abandoned := false } } }
        | [] =>
          match s.port.loaderQueue with
          | b :: rest => { s with port := { s.port with
              loaderQueue := rest
              grant := some { requester := .loader, burst := b, base := s.control.area, abandoned := false } } }
          | [] => s
  | _, _ => s

/-- The bus address of a grant's first byte: AREA plus the offset (R175). -/
def Grant.address (g : Grant) : Nat :=
  g.base.toNat + g.burst.offset

/-- The grant in progress ended before its completion by a reset or by the shutting of access: of a write, the words
the memory had accepted stay, a free number of them (R174, R177). -/
def State.cutGrant (s : State) : State :=
  match s.port.grant with
  | none => s
  | some g =>
    match g.burst.transfer with
    | .read _ => { s with port := { s.port with grant := none } }
    | .write ws =>
      { s with
        port := { s.port with grant := none }
        memory := s.memory.writeWords g.address (ws.take (min ws.length (Config.wordsAccepted s.freeIndex)))
        freeIndex := s.freeIndex + 1 }

/-- The grant in progress ended by a bus error: what its bytes hold, where it is a write, is not recorded (R177). -/
def State.failGrant (s : State) : State :=
  match s.port.grant with
  | none => s
  | some g =>
    match g.burst.transfer with
    | .read _ => { s with port := { s.port with grant := none } }
    | .write ws =>
      { s with
        port := { s.port with grant := none }
        memory := s.memory.writeBytes g.address ((List.range (4 * ws.length)).map (Config.unsoundByte s.freeIndex))
        freeIndex := s.freeIndex + 1 }

/-! ### The position block (R172, R179) -/

/-- Survey Control is to write the position block at the event now being taken. -/
def State.callPosition (s : State) : State :=
  { s with positionDue := true }

def Tracker.code : Tracker → BitVec 8
  | .tracking => 0
  | .backed => 1

/-- The four words of the position block (para 11.2). -/
def State.positionWords (s : State) : List Word :=
  [ (0 : BitVec 8) ++ BitVec.ofNat 8 s.chainage.openStation.isSome.toNat ++ s.chainage.tracker.code ++
      s.control.survey.code,
    s.chainageNow, signedWord (s.chainage.openStation.getD 0), natWord (s.activeGeneration % 65536) ]

/-- The burst that writes the position block with the values as they stand. -/
def State.positionBurst (s : State) : Burst :=
  { offset := 24, transfer := .write s.positionWords, purpose := .position }

/-- A waiting position write is replaced in its place by the new one; where none waits it joins the tail (R172). -/
def replacePosition (b : Burst) (queue : List Burst) : List Burst :=
  if queue.any (fun x => x.purpose == .position) then
    queue.map (fun x => if x.purpose = .position then b else x)
  else queue ++ [b]

/-- The position write the event called for, if it did, with the values at the event's end. -/
def State.flushPosition (s : State) : State :=
  if s.positionDue then
    match s.port.access with
    | .shut => { s with positionDue := false }
    | .opened =>
      { s with
        positionDue := false
        port := { s.port with controlQueue := replacePosition s.positionBurst s.port.controlQueue } }
  else s

/-! ### The Sheet Writer (chapter 8) -/

/-- The area offset of byte `k` of a sheet (R129). -/
def State.sheetOffset (s : State) (sheet k : Nat) : Nat :=
  s.sheets.sheetBase + sheet * s.sheets.sheetSize + k

/-- The sequence counter advanced: it wraps from 4,294,967,295 to 1 (R137). -/
def nextSequence (n : Nat) : Nat :=
  if n = 4294967295 then 1 else n + 1

/-- The number of 64-byte bursts a run of words takes. -/
def burstCount (words : List Word) : Nat :=
  (words.length + 15) / 16

/-- A sheet taken from the free sheet queue for the record at the head of the output queue, or STARVED (R137, R139). -/
def State.takeSheet (s : State) : State :=
  match s.sheets.freeSheets with
  | [] => ({ s with sheets := { s.sheets with drain := .starved } }).raiseStarved
  | k :: rest =>
    let sequence := nextSequence s.sheets.sequence
    let s1 := { s with sheets := { s.sheets with
      freeSheets := rest
      sequence := sequence
      drain := .opening
      filling := some { sheet := k, sequence := sequence, writeOffset := 16, records := 0, stations := 0 } } }
    s1.place .writer
      [ { offset := s1.sheetOffset k 0,
          transfer := .write (sheetHeaderWords k s1.activeGeneration sequence),
          purpose := .sheetHeader },
        rosterBurst k .filling sequence .fillingEntry ]

/-- The write of the head record begun: all its bursts are placed at once (R138). -/
def State.beginRecord (s : State) : State :=
  match s.sheets.filling, s.sheets.queue with
  | some f, q :: _ =>
    ({ s with sheets := { s.sheets with drain := .writing } }).place .writer
      (writeBursts .record (s.sheetOffset f.sheet f.writeOffset) q.words (burstCount q.words))
  | _, _ => s

/-- The close of the filling sheet begun: bytes used and record count, then the CLOSED roster entry (R140). -/
def State.beginClose (s : State) : State :=
  match s.sheets.filling with
  | none => s
  | some f =>
    ({ s with sheets := { s.sheets with drain := .closing } }).place .writer
      [ { offset := s.sheetOffset f.sheet 8, transfer := .write [natWord f.writeOffset, natWord f.records],
          purpose := .finalHeader },
        rosterBurst f.sheet .closed f.sequence .closedEntry ]

/-- In READY, the record at the head of the output queue is looked at (R136). -/
def State.lookAtHead (s : State) : State :=
  match s.sheets.drain, s.sheets.queue with
  | .ready, q :: _ =>
    match s.sheets.filling with
    | none => s.takeSheet
    | some f =>
      if f.writeOffset + 4 * q.record.length ≤ s.sheets.sheetSize then s.beginRecord else s.beginClose
  | _, _ => s

/-- The number of records at and above which an offer is refused (R132). -/
def RecordKind.refusedAt (k : RecordKind) : Nat :=
  if k.isStation then 6 else 8

/-- A record at the tail of the output queue with the lost count as its lost-before field (R133). -/
def State.enqueue (s : State) (r : Record) : State :=
  { s with
    sheets := { s.sheets with queue := s.sheets.queue ++ [{ record := r, lostBefore := s.sheets.lost }], lost := 0 }
    positionDue := s.positionDue || r.kind.isStation }

/-- A record admitted: Survey Control is told of a station-kind one (R132), and READY looks at it (R136). -/
def State.admitRecord (s : State) (r : Record) : State :=
  (s.enqueue r).lookAtHead

/-- A record offered by another block: admitted, or refused and counted lost (R132, R133). -/
def State.offer (s : State) (r : Record) : State :=
  if s.sheets.queue.length < r.kind.refusedAt then s.admitRecord r
  else { s with sheets := { s.sheets with
      lost := saturatingSucc 65535 s.sheets.lost, runLost := saturatingSucc 65535 s.sheets.runLost } }

/-- The END record as it is built at its admission (R134). -/
def State.buildEnd (s : State) (mode : StopMode) (cleared : Nat) : Record :=
  endRecord mode cleared s.sheets.runLost s.chainage.chainage

/-- END offered: admitted where the queue holds 7 records or fewer, and otherwise waiting (R134). -/
def State.offerEnd (s : State) (mode : StopMode) (cleared : Nat) : State :=
  if s.sheets.queue.length < 8 then s.admitRecord (s.buildEnd mode cleared)
  else { s with sheets := { s.sheets with endWaiting := true } }

/-! ### Plan sets and loads (chapter 7) -/

/-- The area size of the area geometry. -/
def State.areaSize (s : State) : Nat :=
  (s.control.geometry.map Geometry.areaSize).getD 0

/-- A refused load: SETUP_FAULT, and the load none (R117). -/
def State.refuseLoad (s : State) (r : SetupRefusal) : State :=
  ({ s with loader := { s.loader with load := .idle, calibrationWords := [] } }).raiseSetupFault r

/-- The first burst of a run of `words` words yet to be read, at an offset. -/
def readBurst (purpose : Purpose) (offset words : Nat) : Burst :=
  { offset := offset, transfer := .read (min 16 words), purpose := purpose }

/-- A load begun in phase HEADER in a set: the set becomes INVALID, the offset is judged, and the first burst of the
plan header is asked for (R114). -/
def State.beginLoad (s : State) (target : SetId) (offset : Nat) : State :=
  let s1 := s.setPlanSet target { s.planSet target with status := .invalid, mark := .unmarked }
  if offset % 4 ≠ 0 ∨ s.areaSize < offset + planHeaderLength then s1.refuseLoad (.badSpan, offset)
  else
    ({ s1 with loader := { s1.loader with load := .copying target offset .header [] } }).place .loader
      [readBurst .planHeader offset 22]

/-- A waiting or copying load cancelled: bursts not yet granted are withdrawn, and the bytes of one granted will be
discarded (R123, R128). -/
def State.cancelLoad (s : State) : State :=
  ({ s with
    loader := { s.loader with load := .idle }
    port := { s.port with loaderQueue := [] } }).abandonGrant .loader

/-- A reference to a set given up; when its count falls to 0, a load waiting for the set begins (R119, R121). -/
def State.releaseSet (s : State) (i : SetId) : State :=
  let n := (s.planSet i).references - 1
  let s1 := s.setPlanSet i { s.planSet i with references := n }
  match s1.loader.load with
  | .waiting target offset => if target = i ∧ n = 0 then s1.beginLoad i offset else s1
  | .idle => s1
  | .copying _ _ _ _ => s1

/-- The switch made at a station opening when a set is PENDING (R125): marks, PLAN_TAKEN, and the PLAN record with the
number of the station opened under it. -/
def State.switchPlan (s : State) (station : Int) : State :=
  match s.pendingSet with
  | none => s
  | some p =>
    let s1 :=
      match s.activeSet with
      | some a => s.setPlanSet a { s.planSet a with mark := .unmarked }
      | none => s
    let s2 := s1.setPlanSet p { s1.planSet p with mark := .active }
    let set := s2.planSet p
    (s2.raisePlanTaken (BitVec.ofNat 24 set.generation) (natWord set.offset)).offer
      (planRecord .switch p set.generation set.offset station s.chainage.chainage)

/-- The plan of START announced at the first opening: PLAN_TAKEN, and the PLAN record with cause START (R126). -/
def State.announcePlan (s : State) (station : Int) : State :=
  match s.activeSet with
  | none => s
  | some a =>
    let set := s.planSet a
    (s.raisePlanTaken (BitVec.ofNat 24 set.generation) (natWord set.offset)).offer
      (planRecord .start a set.generation set.offset station s.chainage.chainage)

/-! ### Banks (chapter 4) -/

/-- The context and cells of a bank at the opening of a station, bound to the ACTIVE set (R58, R59). -/
def State.openedBank (s : State) (old : Bank) (opening : BitVec 16) (station : Int) : Bank :=
  let zone := s.activeTables.zoneAt (station * (s.calibration.stationPitch : Int))
  { old with
    phase := .opened, openingNumber := opening, first := station, span := 1,
    startChainage := reportedChainage s.chainage.chainage, endChainage := none,
    planReference := s.activeSet.map (fun i => { set := i, generation := (s.planSet i).generation }),
    zone := zone, committed := 0, discarded := 0, inHand := 0, boundaryHeld := false,
    flags := { StationFlags.clear with defaultZone := zone.isNone },
    rail := Vector.replicate 256 .empty, level := Vector.replicate 256 .empty }

/-- The ACTIVE set's reference count raised by one (R119). -/
def State.referActive (s : State) : State :=
  match s.activeSet with
  | some i => s.setPlanSet i { s.planSet i with references := (s.planSet i).references + 1 }
  | none => s

/-- A station opened in a bank under the set now ACTIVE, and announced to the Chainage Unit (R57 to R59, R28). -/
def State.openStationIn (s : State) (i : BankId) (station : Int) : State :=
  let opening := s.accumulator.openingCounter + 1
  let s1 := { s with accumulator := { s.accumulator with openingCounter := opening } }
  let s2 := (s1.setBank i (s1.openedBank (s1.bank i) opening station)).referActive
  { s2 with chainage := { s2.chainage with openStation := some station } }

/-- A station opened at a boundary or a resume: any switch first (R59, R125). -/
def State.openStation (s : State) (i : BankId) (station : Int) : State :=
  (s.switchPlan station).openStationIn i station

/-- The bank a station opens in at START and at a resume (R57). -/
def State.freshBank (s : State) : BankId :=
  if s.accumulator.bank0.phase = .free then .bank0 else .bank1

/-- A bank freed, its plan set reference released (R59, R109, R119). -/
def State.freeBank (s : State) (i : BankId) : State :=
  let b := s.bank i
  let s1 := s.setBank i { b with phase := .free, planReference := none, inHand := 0, boundaryHeld := false }
  let s2 := { s1 with accumulator := { s1.accumulator with
    evaluationOrder := s1.accumulator.evaluationOrder.erase i } }
  match b.planReference with
  | some r => s2.releaseSet r.set
  | none => s2

/-- The span grown to the magnitude of a station number's difference from the first, saturating at 255 (R69, R70). -/
def Bank.grownSpan (b : Bank) (station : Int) : Nat :=
  max b.span (min 255 (station - b.first).natAbs)

/-- The OPEN bank closed at the end of its station: its end chainage and its place in the evaluation order (R69). -/
def State.closeBank (s : State) (i : BankId) (span : Nat) (cutShort : Bool) : State :=
  let b := s.bank i
  let s1 := s.setBank i { b with
    phase := .closing
    endChainage := some (reportedChainage s.chainage.chainage)
    span := span
    boundaryHeld := false
    flags := { b.flags with cutShort := b.flags.cutShort || cutShort } }
  { s1 with accumulator := { s1.accumulator with evaluationOrder := s1.accumulator.evaluationOrder ++ [i] } }

/-- A boundary taken with a number: the OPEN bank closes and the new station opens in the other (R69). -/
def State.takeBoundary (s : State) (i : BankId) (station : Int) : State :=
  (s.closeBank i ((s.bank i).grownSpan station) false).openStation i.other station

/-- A held boundary taken or set aside, when the bank other than the OPEN bank is FREE (R71). -/
def State.takeHeldBoundary (s : State) : State :=
  match s.openBank with
  | none => s
  | some i =>
    if (s.bank i).boundaryHeld ∧ (s.bank i.other).phase = .free then
      if s.calibration.direction.ahead s.stationNow (s.bank i).first then s.takeBoundary i s.stationNow
      else s.setBank i { s.bank i with boundaryHeld := false }
    else s

/-- The Clearance Evaluator takes a bank (R79, R80, R82). -/
def State.beginEvaluation (s : State) (i : BankId) : State :=
  let p := s.boundTables i
  let z := s.boundParameters i
  { s with evaluator :=
      { phase := .assessing, bank := some i, template := p.templateFor z.radius, tolerance := z.tolerance,
        warn := z.warn, blindLimit := p.blindLimit, nextSector := 0, results := [], summary := .start } }

/-- A bank becomes EVALUATING and is judged by its revolutions committed (R73): the EMPTY outcome, or the Clearance
Evaluator. -/
def State.becomeEvaluating (s : State) (i : BankId) : State :=
  let b := s.bank i
  let b1 := { b with
    phase := .evaluating
    flags := { b.flags with thin := b.flags.thin || decide (b.committed < (s.boundTables i).kr) } }
  let s1 := s.setBank i b1
  if b.committed = 0 then ((s1.offer (bareStationRecord .empty b1)).freeBank i).takeHeldBoundary
  else s1.beginEvaluation i

/-- The bank at the head of the evaluation order becomes EVALUATING when it is CLOSING with no revolution in hand
(R72). -/
def State.evaluationRound (s : State) : State :=
  match s.accumulator.evaluationOrder with
  | [] => s
  | i :: _ => if (s.bank i).phase = .closing ∧ (s.bank i).inHand = 0 then s.becomeEvaluating i else s

/-- R72 made at the event that brings it about. Each round can free a bank and, by the boundary it held, close the
other, so three rounds reach a bank that stays: two banks can be waiting and one more can close behind them. -/
def State.advanceEvaluation (s : State) : State :=
  s.evaluationRound.evaluationRound.evaluationRound

/-- A revolution tagged to a bank leaves its buffer: the bank's revolutions in hand falls by one (R61). -/
def State.dropInHand (s : State) (t : Tag) : State :=
  if s.holdsTag t then s.setBank t.bank { s.bank t.bank with inHand := (s.bank t.bank).inHand - 1 } else s

/-- A revolution counted as discarded against the bank its tag names, while that bank is OPEN or CLOSING (R62). -/
def State.countDiscard (s : State) (t : Tag) : State :=
  if s.holdsTag t ∧ (s.bank t.bank).phase ≠ .evaluating then
    s.setBank t.bank { s.bank t.bank with discarded := saturatingSucc 65535 (s.bank t.bank).discarded }
  else s

/-- The report of a discarded revolution that held a buffer (R14, R61, R62). A revolution tagged none is not
reported. -/
def State.reportDiscard (s : State) (tag : Option Tag) : State :=
  match tag with
  | none => s
  | some t => (s.countDiscard t).dropInHand t

/-- The tag a revolution opening now is given (R11, R60). -/
def State.tagNow (s : State) : Option Tag :=
  if s.chainage.tracker = .backed then none
  else s.openBank.map (fun i => { bank := i, opening := (s.bank i).openingNumber })

/-! ### Commits (R63 to R67, R75) -/

/-- The commit of the buffer at the head of the handover order started (R64). -/
def State.startCommit (s : State) (h : Handed) : State :=
  { s with accumulator := { s.accumulator with
      commit := some
        { buffer := h.buffer, tag := h.tag, window := h.window,
          cantOffset := cantAngleOffset (cantInUse s.cant.history),
          cantHeld := s.cant.history.isEmpty || decide (s.cant.failures ≠ 0),
          floor := (s.boundParameters h.tag.bank).floor } } }

/-- A revolution dropped from the handover order: its buffer FREE, and, while BACKED, counted as discarded against a
CLOSING bank that holds its station (R63, R75). -/
def State.dropHanded (s : State) (h : Handed) : State :=
  let s1 := (s.freeBuffer h.buffer)
  let s2 := { s1 with sweep := { s1.sweep with handover := s1.sweep.handover.drop 1 } }
  let s3 :=
    if s2.holdsTag h.tag ∧ (s2.bank h.tag.bank).phase = .closing ∧ s2.chainage.tracker = .backed then
      s2.countDiscard h.tag
    else s2
  s3.dropInHand h.tag

/-- The buffer at the head of the handover order judged, when no commit is in progress (R63). -/
def State.judgeHandedOnce (s : State) : State :=
  match s.accumulator.commit, s.sweep.handover with
  | none, h :: _ =>
    if s.holdsTag h.tag ∧ (s.bank h.tag.bank).phase ≠ .evaluating ∧ s.chainage.tracker = .tracking then
      s.startCommit h
    else s.dropHanded h
  | _, _ => s

/-- R63 for the handover order, which holds at most two buffers: a dropped buffer's successor is judged at once. -/
def State.judgeHanded (s : State) : State :=
  s.judgeHandedOnce.judgeHandedOnce

/-- A commit ended before its last sample: the cells it had reached, a free number of samples on, are left as they are
(R67, R75, R78). -/
def State.cutCommit (s : State) : State :=
  match s.accumulator.commit with
  | none => s
  | some c =>
    let xs := (s.buffer c.buffer).samples
    let n := min xs.length (Config.samplesFolded s.freeIndex)
    let s1 := s.setBank c.tag.bank
      ((s.bank c.tag.bank).foldSamples s.calibration c.floor c.cantOffset (xs.take n))
    { s1 with
      accumulator := { s1.accumulator with commit := none }
      freeIndex := s1.freeIndex + 1 }

/-- Every bank that holds a station freed without record, the commit in progress ended and the evaluation order emptied
(R78). -/
def State.dropBanks (s : State) : State :=
  let s1 := s.cutCommit
  let s2 := (if s1.accumulator.bank0.phase = .free then s1 else s1.freeBank .bank0)
  let s3 := (if s2.accumulator.bank1.phase = .free then s2 else s2.freeBank .bank1)
  { s3 with accumulator := { s3.accumulator with evaluationOrder := [] } }

/-- The Clearance Evaluator and the Baseline Comparator end their work without record: the reads of the Baseline
Comparator not yet granted are withdrawn, and one granted is given up (R97, R111). Template index, baseline condition (undecided
after a drop in READING) and the applied parameters of both keep what they held, and the summary takes its start value: the
manual gives these no value in IDLE (DESIGN CHOICE, assumption 25). -/
def State.dropAssessments (s : State) : State :=
  ({ s with
    evaluator := { s.evaluator with phase := .idle, bank := none, results := [], summary := .start }
    comparator := { s.comparator with
      phase := .idle, bank := none, rail := none, record := [], results := [], deformCount := 0, maxDeviation := none }
    port := { s.port with comparatorQueue := [] } }).abandonGrant .comparator

/-! ### The Sweep Port and its intake (R4, R5, R19) -/

/-- RUN sent to the head (R4). -/
def State.sendRun (s : State) : State :=
  { s with sweep := { s.sweep with lastCommand := .run }, sent := s.sent ++ [.head runWord] }

/-- STOP sent to the head where the last command sent is RUN (R4). -/
def State.sendStop (s : State) : State :=
  match s.sweep.lastCommand with
  | .run => { s with sweep := { s.sweep with lastCommand := .stop }, sent := s.sent ++ [.head stopWord] }
  | .stop => s

/-- The revolution being received given up: its buffer FREE, and none in hand; its tag, and whether there was one. -/
def State.dropCurrent (s : State) (next : Receiver) : State :=
  match s.sweep.current with
  | none => { s with sweep := { s.sweep with receiver := next } }
  | some r =>
    let s1 := s.freeBuffer r.buffer
    { s1 with sweep := { s1.sweep with current := none, receiver := next } }

/-- The revolution being received discarded and reported against its tag (R6, R7, R14, R16). -/
def State.discardCurrent (s : State) (next : Receiver) : State :=
  match s.sweep.current with
  | none => { s with sweep := { s.sweep with receiver := next } }
  | some r => (s.dropCurrent next).reportDiscard r.tag

/-- The intake closed and the mark timer stopped, the receiver WAITING, the read in flight abandoned (R5, R19, R47).
The revolution being received has been dealt with before. -/
def State.shutIntake (s : State) : State :=
  { s with
    sweep := { s.sweep with intake := .closed, receiver := .waiting, markTimer := false }
    cant := { s.cant with readInFlight := false } }

/-- The intake closed at STOP_DROP and on entry to FAULTED: every buffer emptied without report (R19). -/
def State.shutIntakeEmptied (s : State) : State :=
  let s1 := s.shutIntake
  { s1 with sweep := { s1.sweep with
      bufferA := .reset, bufferB := .reset, current := none, handover := [] } }

/-- The Chainage Unit leaves SURVEYING: its mode, its marker latch emptied, no open station (R22, R42). -/
def State.leaveSurveying (s : State) (mode : ChainageMode) : State :=
  { s with chainage := { s.chainage with mode := mode, marker := none, openStation := none } }

/-! ### FAULTED (R173) -/

/-- The survey enters FAULTED. Where it is FAULTED already nothing changes. -/
def State.enterFaulted (s : State) (cause : FaultCause) (particulars : Word) : State :=
  if s.control.survey = .faulted then s
  else
    let s1 := (s.raiseFault cause particulars).cutGrant
    let s2 := { s1 with
      port := { s1.port with
        comparatorQueue := [], writerQueue := [], controlQueue := [], loaderQueue := [], grant := none,
        access := .shut }
      loader := { s1.loader with load := .idle, calibrationWords := [] } }
    let s3 := ((s2.sendStop.dropBanks.dropAssessments).shutIntakeEmptied).leaveSurveying .held
    { s3 with
      sheets := { s3.sheets with
        queue := [], freeSheets := [], filling := none, closedSheets := [], drain := .still, stopMode := .unset,
        endWaiting := false, endWritten := none }
      control := { s3.control with
        survey := .faulted, startPhase := .unset, stopPhase := .unset, stopMode := .unset }
      positionDue := false }

/-! ### Resets (R174) -/

/-- Every block in the state its chapter gives after either reset, STOP sent to the head; the last post, AREA and the
interrupt enable as the kind of reset gives them. The survey memory, the odometer lines and what the host last read lie
outside the part; a write burst in progress is cut. -/
def State.resetBlocks (s : State) (lastKind : BitVec 8) (area : Word) (enable : Bool) : State :=
  let cut := s.cutGrant
  { State.reset with
    control := { SurveyControl.reset with lastKind := lastKind, area := area, interruptEnable := enable }
    memory := cut.memory
    lines := s.lines
    sent := s.sent ++ [.head stopWord]
    hostRead := s.hostRead
    freeIndex := cut.freeIndex
    pending := s.pending }

/-! ### The end of a stop and of an event -/

/-- Survey Control offers END of FINISH when the Sector Accumulator has nothing left (R77, R169). -/
def State.finishDraining (s : State) : State :=
  if s.control.survey = .stopping ∧ s.control.stopPhase = .draining ∧ s.accumulator.bank0.phase = .free ∧
      s.accumulator.bank1.phase = .free ∧ s.sweep.handover = [] then
    ({ s with control := { s.control with stopPhase := .ending } }).offerEnd .finish 0
  else s

/-- What the end of an event brings about: END where a drain has finished (R169), the position write the event called
for with the values as they then stand (R172), and the grant (R176). -/
def State.settle (s : State) : State :=
  s.finishDraining.flushPosition.arbitrate

/-- The last post recorded (R163). -/
def State.recordPost (s : State) (kind : BitVec 8) (result : PostResult) : State :=
  { s with control := { s.control with lastKind := kind, lastResult := result } }

end Sys2Proof.Machine
end

