-- ==== Sys2Proof/Machine/Accumulation.lean ====
section
/-! DEFINITION. COMMIT_END (chapter 4, R64 to R67): the samples of the revolution folded into its bank, and what
follows. -/
namespace Sys2Proof.Machine

/-- The target bank at the end of a commit: its cells folded, the revolution counted, its flags set (R64 to R67). -/
def Bank.commitRevolution (c : Calibration) (k : Commit) (xs : List Sample) (b : Bank) : Bank :=
  let folded := b.foldSamples c k.floor k.cantOffset xs
  { folded with
    committed := saturatingSucc 65535 folded.committed
    flags := { folded.flags with
      window := folded.flags.window || k.window, cantHeld := folded.flags.cantHeld || k.cantHeld } }

/-- The commit in progress ended (R67): the bank's tally, the buffer FREE and out of the handover order, the revolutions
in hand lowered, no commit in progress. -/
def State.endCommit (s : State) (k : Commit) : State :=
  let xs := (s.buffer k.buffer).samples
  let s1 :=
    if s.holdsTag k.tag then s.setBank k.tag.bank ((s.bank k.tag.bank).commitRevolution s.calibration k xs) else s
  let s2 := (s1.dropInHand k.tag).freeBuffer k.buffer
  { s2 with
    sweep := { s2.sweep with handover := s2.sweep.handover.drop 1 }
    accumulator := { s2.accumulator with commit := none } }

/-- COMMIT_END (R67): the next buffer in the handover order is then judged; with no commit in progress none ends. -/
def execCommitEnd (s : State) : Host.Outcome State Fault Refusal :=
  match s.accumulator.commit with
  | none => .next s
  | some k => .next (s.endCommit k).judgeHanded.advanceEvaluation.settle

end Sys2Proof.Machine
end

