-- ==== Sys2Proof/Machine/CantLine.lean ====
section
/-! DEFINITION. The commands of the cant line and its reply timer (chapter 3): CANT_REPLY and REPLY_TIMER_EXPIRY. -/
namespace Sys2Proof.Machine

/-- A failed reading (R46): the failure count raised, at most 255, and CANT_FAULT when it rises from 15 to 16. -/
def State.failReading (s : State) : State :=
  let s1 := { s with cant := { s.cant with readInFlight := false, failures := saturatingSucc 255 s.cant.failures } }
  if s.cant.failures = 15 then s1.raiseCantFault 16 (natWord s.cant.history.length) else s1

/-- The cant history with a corrected reading at its newest end: the oldest of four is removed first (R45). -/
def pushReading (history : List Int) (x : Int) : List Int :=
  (if history.length < 4 then history else history.drop 1) ++ [x]

/-- A good reading (R45): corrected by the cant zero offset, it joins the history, and the failure count becomes 0. -/
def State.goodReading (s : State) (value : Int) : State :=
  { s with cant :=
      { history := pushReading s.cant.history (value - s.calibration.cantZero), failures := 0, readInFlight := false } }

/-- CANT_REPLY (R44): judged when a read is in flight; a late reply is ignored. -/
def execCantReply (value : BitVec 16) (good : Bool) (s : State) : Host.Outcome State Fault Refusal :=
  match s.cant.readInFlight with
  | false => .next s
  | true => if good = true ∧ value.toInt.natAbs ≤ 4500 then .next (s.goodReading value.toInt) else .next s.failReading

/-- REPLY_TIMER_EXPIRY (R44): the reading has failed; with no read in flight nothing happens. -/
def execReplyTimerExpiry (s : State) : Host.Outcome State Fault Refusal :=
  match s.cant.readInFlight with
  | false => .next s
  | true => .next s.failReading

end Sys2Proof.Machine
end

