-- ==== Sys2Proof/Machine/ChainageLine.lean ====
section
/-! DEFINITION. The commands of the odometer and marker lines (chapter 2): ODOMETER_STEP, MARKER_ARRIVAL and
MARKER_TAKING, with boundaries (R31, R69, R70), reversal (R32, R74, R75) and resumption (R35, R76). -/
namespace Sys2Proof.Machine

/-- A flag of the OPEN bank set, where a bank is OPEN (R68). -/
def State.flagOpenBank (s : State) (f : StationFlags → StationFlags) : State :=
  match s.openBank with
  | none => s
  | some i => s.setBank i { s.bank i with flags := f (s.bank i).flags }

/-- The open station stretched: the boundary held, STRETCHED, the span grown (R70). -/
def State.stretch (s : State) (i : BankId) (station : Int) : State :=
  let b := s.bank i
  s.setBank i { b with boundaryHeld := true, span := b.grownSpan station, flags := { b.flags with stretched := true } }

/-- A boundary signalled to the Sector Accumulator: taken at once, or held (R69, R70). -/
def State.signalBoundary (s : State) (station : Int) : State :=
  match s.openBank with
  | none => s
  | some i =>
    if (s.bank i.other).phase = .free then
      if (s.bank i).boundaryHeld then s else (s.takeBoundary i station).advanceEvaluation
    else s.stretch i station

/-- The boundary test (R31). -/
def State.testBoundary (s : State) : State :=
  match s.chainage.tracker, s.chainage.openStation with
  | .tracking, some k =>
    if s.calibration.direction.ahead s.stationNow k then s.signalBoundary s.stationNow else s
  | _, _ => s

/-- The peak moved to a more advanced chainage (R30). -/
def State.movePeak (s : State) : State :=
  if s.chainage.tracker = .tracking ∧ s.calibration.direction.ahead s.chainage.chainage s.chainage.peak = true then
    { s with chainage := { s.chainage with peak := s.chainage.chainage } }
  else s

/-- The OPEN bank abandoned: its ABANDONED record offered, and the bank freed (R74). -/
def State.abandonStation (s : State) : State :=
  match s.openBank with
  | none => s
  | some i =>
    let b := { s.bank i with endChainage := some (reportedChainage s.chainage.chainage) }
    (((s.setBank i b).offer (bareStationRecord .abandoned b)).freeBank i)

/-- The reversal (R32): BACKED, the open station abandoned and every commit dropped, the REVERSAL record and notice, no
open station and an empty marker latch. -/
def State.reverse (s : State) : State :=
  let station := s.chainage.openStation.getD 0
  let s1 := { s with chainage := { s.chainage with tracker := .backed } }
  let s2 := s1.abandonStation.cutCommit.judgeHanded.advanceEvaluation
  let s3 := s2.offer (reversalRecord station s2.chainage.chainage s2.chainage.peak)
  let s4 := s3.raiseReversal (signedArgument station) s3.chainageNow
  { s4 with chainage := { s4.chainage with openStation := none, marker := none } }

/-- The distance by which the chainage has fallen behind the peak; negative when it has not. -/
def State.fallBack (s : State) : Int :=
  match s.calibration.direction with
  | .forward => s.chainage.peak - s.chainage.chainage
  | .backward => s.chainage.chainage - s.chainage.peak

/-- The reversal test (R32): more than H mm behind the peak. -/
def State.testReversal (s : State) : State :=
  if s.chainage.tracker = .tracking ∧ (s.calibration.hysteresis : Int) * 1024 < s.fallBack then s.reverse else s

/-- The resumption (R35, R76): TRACKING, the peak at the chainage, the station opened, the RESUME record; commits start
again. -/
def State.resume (s : State) : State :=
  let s1 := { s with chainage := { s.chainage with tracker := .tracking, peak := s.chainage.chainage } }
  let station := s1.stationNow
  let s2 := s1.openStation s1.freshBank station
  (s2.offer (resumeRecord station s2.chainage.chainage)).judgeHanded.advanceEvaluation

/-- The resumption test (R35): the chainage has regained the peak. -/
def State.testResume (s : State) : State :=
  if s.chainage.tracker = .backed ∧ s.fallBack ≤ 0 then s.resume else s

/-- The tests of SURVEYING after a change of chainage, in the order of R23: peak, reversal, resumption, boundary. -/
def State.surveyTests (s : State) : State :=
  s.movePeak.testReversal.testResume.testBoundary

/-- A valid step counted (R23, R25). -/
def State.countStep (s : State) (kind : StepKind) : State :=
  { s with chainage := { s.chainage with
      chainage := holdChainage (s.chainage.chainage + stepShift s.calibration kind) } }

/-- The pins and the line reference after a change of the odometer lines (R23, R24). -/
def State.observeLines (s : State) (now : Levels) : State :=
  { s with lines := now, chainage := { s.chainage with lineReference := some now } }

/-- A valid step (R23): the chainage counted, and in SURVEYING tested. -/
def State.validStep (s : State) (kind : StepKind) : State :=
  let s1 := s.countStep kind
  match s1.chainage.mode with
  | .surveying => s1.surveyTests.settle
  | .counting => s1
  | .held => s1

/-- An illegal step (R24): in SURVEYING and TRACKING it sets ODO on the open station. -/
def State.illegalStep (s : State) : State :=
  match s.chainage.mode, s.chainage.tracker with
  | .surveying, .tracking => s.flagOpenBank (fun f => { f with odo := true })
  | _, _ => s

/-- ODOMETER_STEP (R23, R24): lost in HELD (R22), and otherwise judged against the line reference. -/
def execOdometerStep (line1 line2 : Bool) (s : State) : Host.Outcome State Fault Refusal :=
  let now : Levels := { line1 := line1, line2 := line2 }
  match s.chainage.mode, s.chainage.lineReference with
  | .held, _ => .next { s with lines := now }
  | _, none => .next (s.observeLines now)
  | _, some reference =>
    match stepKind reference now with
    | .unchanged => .next (s.observeLines now)
    | .illegal => .next (s.observeLines now).illegalStep
    | .forward => .next ((s.observeLines now).validStep .forward)
    | .reverse => .next ((s.observeLines now).validStep .reverse)

/-! ### Markers -/

/-- MARKER_ARRIVAL (R36): latched, CROWDED set in a full latch, or ignored. -/
def execMarkerArrival (ident : BitVec 16) (s : State) : Host.Outcome State Fault Refusal :=
  if ident = 0 then .next s
  else
    match s.chainage.mode, s.chainage.tracker, s.chainage.marker with
    | .surveying, .tracking, none =>
      .next { s with chainage := { s.chainage with
        marker := some { ident := ident, chainage := s.chainage.chainage, crowded := false } } }
    | .surveying, .tracking, some m =>
      .next { s with chainage := { s.chainage with marker := some { m with crowded := true } } }
    | _, _, _ => .next s

/-- A snap (R38, R39): chainage and peak shifted, SNAPPED on the open station, the boundary test, the MARKER record. -/
def State.snap (s : State) (m : MarkerLatch) (truth : Int) : State :=
  let shift := truth * 1024 - m.chainage
  let s1 := { s with chainage := { s.chainage with
    chainage := holdChainage (s.chainage.chainage + shift), peak := holdChainage (s.chainage.peak + shift) } }
  let s2 := (s1.flagOpenBank (fun f => { f with snapped := true })).testBoundary
  s2.offer (markerRecord m.ident (reportedChainage m.chainage) (some truth) true m.crowded)

/-- A marker outside the snap window (R40): MARKER_MISMATCH and the MARKER record. -/
def State.mismatch (s : State) (m : MarkerLatch) (truth : Int) : State :=
  let e := truth - reportedChainage m.chainage
  (s.raiseMarkerMismatch (m.ident.setWidth 24) (signedWord (clampInt (-32767) 32767 e))).offer
    (markerRecord m.ident (reportedChainage m.chainage) (some truth) false m.crowded)

/-- The latched marker looked up in the ACTIVE set's table and dealt with (R37, R38, R40, R41). -/
def State.takeMarker (s : State) (m : MarkerLatch) : State :=
  match s.activeTables.markers.find? (fun x => x.ident == m.ident.toNat) with
  | some x =>
    if (x.chainage - reportedChainage m.chainage).natAbs ≤ s.activeTables.snapWindow then s.snap m x.chainage
    else s.mismatch m x.chainage
  | none => s.offer (markerRecord m.ident (reportedChainage m.chainage) none false m.crowded)

/-- MARKER_TAKING (R37): the latch is empty when the taking is done; an empty latch has nothing to take. -/
def execMarkerTaking (s : State) : Host.Outcome State Fault Refusal :=
  match s.chainage.mode, s.chainage.tracker, s.chainage.marker with
  | .surveying, .tracking, some m =>
    .next ({ s with chainage := { s.chainage with marker := none } }.takeMarker m).settle
  | _, _, _ => .next s

end Sys2Proof.Machine
end

