-- ==== Sys2Proof/Machine/Comparison.lean ====
section
/-! DEFINITION. COMPARISON_PASS_END (chapter 6): the pass over the level sectors (R104 to R106), the choice of entries
(R107), the record (R108) and its release (R109). -/
namespace Sys2Proof.Machine

/-- The mean radius of a level cell, half-way rounded up (R105). -/
def LevelCell.mean (cell : LevelCell) : Nat :=
  (cell.sum + cell.count / 2) / cell.count

/-- The baseline radius of a level sector in a baseline record (para 11.4). -/
def baselineRadius (record : List Word) (s : Sector) : Nat :=
  halfAt record 2 s.val

/-- A level sector judged with the baseline PRESENT (R105). -/
def judgeLevel (km deformLimit : Nat) (cell : LevelCell) (radius : Nat) : LevelResult :=
  if cell.count < km then { status := .none, deviation := none }
  else if radius = 0 ∨ 16383 < radius then { status := .noBase, deviation := none }
  else
    let deviation := (cell.mean : Int) - (radius : Int)
    if deformLimit ≤ deviation.natAbs then { status := .deform, deviation := some deviation }
    else { status := .steady, deviation := some deviation }

/-- The level results of a bank, sector 0 first: NO_BASE throughout where the condition is not PRESENT (R104). -/
def State.levelResults (s : State) (i : BankId) : List LevelResult :=
  (List.finRange 256).map (fun sector =>
    if s.comparator.condition = some .present then
      judgeLevel s.comparator.meanFloor s.comparator.deformLimit ((s.bank i).level.get sector)
        (baselineRadius s.comparator.record sector)
    else { status := .noBase, deviation := none })

/-- The maximum deviation brought up to date by a DEFORM sector: greater in magnitude, or the first (R106). -/
def widerDeviation (held : Option Int) (d : Int) : Option Int :=
  match held with
  | none => some d
  | some m => if m.natAbs < d.natAbs then some d else some m

/-- The deform count and maximum deviation of a run of level results (R106). -/
def deformSummary (count : Nat) (held : Option Int) : List LevelResult → Nat × Option Int
  | [] => (count, held)
  | r :: rest =>
    match r.status, r.deviation with
    | .deform, some d => deformSummary (count + 1) (widerDeviation held d) rest
    | _, _ => deformSummary count held rest

/-- A sector has an entry in EXCEPTIONS mode (R107). -/
def isException (rail : RailResult) (level : LevelResult) : Bool :=
  rail.cls == .encroach || rail.cls == .near || rail.cls == .blind || level.status == .deform

/-- The sector entries of a record, from sector `k` on, in ascending order (R107). -/
def chooseEntries (mode : ReportMode) (k : Nat) : List RailResult → List LevelResult → List SectorEntry
  | r :: rails, l :: levels =>
    if mode = .full ∨ isException r l = true then
      { sector := k, rail := r, level := l } :: chooseEntries mode (k + 1) rails levels
    else chooseEntries mode (k + 1) rails levels
  | _, _ => []

/-- The kind of a station's alert: ENCROACH if the encroach count is greater than 0, and DEFORM otherwise (R109). -/
def alertKind (encroach : Nat) : AlertKind :=
  if 0 < encroach then .encroach else .deform

/-- The alert of a station, where its encroach count or deform count is greater than 0 (R109). -/
def State.raiseAlert (s : State) (station : Int) (m : ClearanceSummary) (deform : Nat × Option Int) : State :=
  if 0 < m.encroach ∨ 0 < deform.1 then
    s.offerAlert { station := station, kind := alertKind m.encroach, worstMargin := m.worstMargin,
                   worstSector := m.worstSector, deformCount := deform.1, maxDeviation := deform.2 }
  else s

/-- The Baseline Comparator returned to IDLE, its per-station state given up (R109). The condition and the applied
parameters keep what they held: the manual gives them no value in IDLE (DESIGN CHOICE, assumption 25). -/
def State.comparatorIdle (s : State) : State :=
  { s with comparator := { s.comparator with
      phase := .idle, bank := none, rail := none, record := [], nextSector := 256, results := [], deformCount := 0,
      maxDeviation := none } }

/-- The record of an evaluated station (R108). -/
def State.evaluatedRecord (s : State) (i : BankId) (rail : RailHandover) (levels : List LevelResult) : Record :=
  stationRecord .evaluated (s.bank i) rail.template rail.summary (deformSummary 0 none levels).1
    (deformSummary 0 none levels).2 (chooseEntries s.comparator.mode 0 rail.results levels)

/-- The release (R109): the record offered, any alert offered, the bank freed, the comparator IDLE; then a held boundary
is taken and the next bank becomes EVALUATING. -/
def State.release (s : State) (i : BankId) (rail : RailHandover) : State :=
  let levels := s.levelResults i
  let s1 := s.offer (s.evaluatedRecord i rail levels)
  let s2 := s1.raiseAlert (s.bank i).first rail.summary (deformSummary 0 none levels)
  ((s2.freeBank i).comparatorIdle).takeHeldBoundary.advanceEvaluation

/-- COMPARISON_PASS_END (R107 to R109): with no comparison in progress no pass ends. -/
def execComparisonPassEnd (s : State) : Host.Outcome State Fault Refusal :=
  match s.comparator.phase, s.comparator.bank, s.comparator.rail with
  | .comparing, some i, some rail => .next (s.release i rail).settle
  | _, _, _ => .next s

end Sys2Proof.Machine
end

