-- ==== Sys2Proof/Machine/Evaluation.lean ====
section
/-! DEFINITION. EVALUATION_PASS_END (chapter 5): the pass over the rail sectors (R83 to R93), the hand-over (R94) and
the Baseline Comparator's taking of the bank (R99 to R102). -/
namespace Sys2Proof.Machine

/-- The clearance radius of a seen rail cell: second where the count is 2 or more, least where it is 1 (R87). -/
def RailCell.clearance (cell : RailCell) : Nat :=
  if 2 ≤ cell.count then cell.second else cell.least

/-- A template radius after tolerance, clamped to 1..16383 (R88). -/
def toleratedRadius (radius : Nat) (tolerance : Int) : Int :=
  clampInt 1 16383 ((radius : Int) + tolerance)

/-- The class a margin gives under a warn band (R89). -/
def marginClass (margin : Int) (warn : Nat) : RailClass :=
  if margin < 0 then .encroach else if margin < (warn : Int) then .near else .clear

/-- A rail sector assessed: the first of the four tests that applies gives the class (R83 to R89). -/
def assessSector (masked : Bool) (radius : Nat) (cell : RailCell) (tolerance : Int) (warn : Nat) : RailResult :=
  if masked then { cls := .masked, margin := none }
  else if radius = 0 then { cls := .ungauged, margin := none }
  else if cell.count = 0 then { cls := .blind, margin := none }
  else
    let margin := (cell.clearance : Int) - toleratedRadius radius tolerance
    { cls := marginClass margin warn, margin := some margin }

/-- The worst margin and worst sector brought up to date by a sector (R90). -/
def ClearanceSummary.withMargin (m : ClearanceSummary) (sector : Nat) (margin : Option Int) : ClearanceSummary :=
  match margin, m.worstMargin with
  | none, _ => m
  | some x, none => { m with worstMargin := some x, worstSector := some sector }
  | some x, some w => if x < w then { m with worstMargin := some x, worstSector := some sector } else m

/-- The three counts brought up to date by a class (R91). -/
def ClearanceSummary.withClass (m : ClearanceSummary) (cls : RailClass) : ClearanceSummary :=
  match cls with
  | .encroach => { m with encroach := m.encroach + 1 }
  | .near => { m with near := m.near + 1 }
  | .blind => { m with blind := m.blind + 1 }
  | .masked => m
  | .ungauged => m
  | .clear => m

/-- The summary of a run of sector results from sector `k` on (R90, R91). -/
def ClearanceSummary.over (m : ClearanceSummary) (k : Nat) : List RailResult → ClearanceSummary
  | [] => m
  | r :: rest => ((m.withMargin k r.margin).withClass r.cls).over (k + 1) rest

/-- The results of the pass over a bank's rail sectors, sector 0 first (R83). -/
def State.railResults (s : State) (i : BankId) : List RailResult :=
  (List.finRange 256).map (fun sector =>
    assessSector (s.calibration.mask.getLsbD sector.val)
      ((s.boundTables i).templateRadius s.evaluator.template sector)
      ((s.bank i).rail.get sector) s.evaluator.tolerance s.evaluator.warn)

/-- The Baseline Comparator takes a bank with its rail results and its applied parameters (R99). -/
def State.takeForComparison (s : State) (i : BankId) (rail : RailHandover) : State :=
  let p := s.boundTables i
  let z := s.boundParameters i
  { s with comparator :=
      { phase := .comparing, bank := some i, rail := some rail, baselineUse := z.baselineUse,
        deformLimit := z.deformLimit, meanFloor := p.km, mode := z.mode, descriptor := p.baseline,
        condition := some .notUsed, record := [], nextSector := 0, results := [], deformCount := 0,
        maxDeviation := none } }

/-- The nine bursts of a baseline record at an offset (R102). -/
def baselineBursts (offset : Nat) : List Burst :=
  (List.range 9).map (fun k => readBurst .baseline (offset + 64 * k) (130 - 16 * k))

/-- Whether a baseline record is to be read, and if so its read begun (R100 to R102). -/
def State.decideBaseline (s : State) (i : BankId) : State :=
  let d := s.comparator.descriptor
  let index := (s.bank i).first - d.first
  if s.comparator.baselineUse = false then s
  else if index < 0 ∨ (d.count : Int) ≤ index then
    let s1 := s.setBank i { s.bank i with flags := { (s.bank i).flags with noBaseline := true } }
    { s1 with comparator := { s1.comparator with condition := some .outside } }
  else
    ({ s with comparator := { s.comparator with phase := .reading, condition := none } }).place .comparator
      (baselineBursts (d.offset + index.toNat * 520))

/-- The pass ended on a bank: POOR_COVER judged, and the bank handed to the Baseline Comparator (R92 to R94). The Clearance
Evaluator then holds the template index and the applied parameters it had, and a summary at its start value: the manual
gives these no value in IDLE (DESIGN CHOICE, assumption 25). -/
def State.endEvaluation (s : State) (i : BankId) : State :=
  let results := s.railResults i
  let summary := s.evaluator.summary.over 0 results
  let b := s.bank i
  let s1 := s.setBank i { b with
    flags := { b.flags with poorCover := b.flags.poorCover || decide (s.evaluator.blindLimit < summary.blind) } }
  let s2 := { s1 with evaluator := { s1.evaluator with
    phase := .idle, bank := none, nextSector := 256, results := [], summary := .start } }
  (s2.takeForComparison i { results := results, template := s.evaluator.template, summary := summary }).decideBaseline i

/-- EVALUATION_PASS_END (R92): with no evaluation in progress no pass ends. -/
def execEvaluationPassEnd (s : State) : Host.Outcome State Fault Refusal :=
  match s.evaluator.phase, s.evaluator.bank with
  | .assessing, some i => .next (s.endEvaluation i).settle
  | _, _ => .next s

end Sys2Proof.Machine
end

