-- ==== Sys2Proof/Machine/HostWindow.lean ====
section
/-! DEFINITION. The host's accesses to the register window other than posts: NOTICE_READ (R150), AREA_WRITE,
INTERRUPT_ENABLE_WRITE and IGNORED_REGISTER_WRITE (R162). -/
namespace Sys2Proof.Machine

/-- The action of a read that presents a kind (R149). -/
def NoticeUnit.afterRead (n : NoticeUnit) (kind : NoticeKind) : NoticeUnit :=
  match kind with
  | .fault => n
  | .linkFault => { n with linkFault := none }
  | .alert => { n with alerts := n.alerts.drop 1, displaced := false }
  | .sheetStarved => n
  | .markerMismatch => { n with markerMismatch := none }
  | .cantFault => { n with cantFault := none }
  | .setupFault => { n with setupFault := none }
  | .planTaken => { n with planTaken := none }
  | .reversal => { n with reversal := none }
  | .stopped => { n with stopped := none }
  | .sheetReady => { n with unannounced := n.unannounced.drop 1 }

/-- The Sweep Port's link fault latch is cleared by the read that presents LINK_FAULT (R18, R152). -/
def SweepPort.afterRead (w : SweepPort) (kind : NoticeKind) : SweepPort :=
  if kind = .linkFault then { w with latch := false } else w

/-- NOTICE_READ (R150): the value of NOTICE to the host, DETAIL loaded with the particulars, the kind's action. -/
def execNoticeRead (s : State) : Host.Outcome State Fault Refusal :=
  match s.notices.presented with
  | none => .next { s with hostRead := 0, notices := { s.notices with detail := 0 } }
  | some x =>
    .next { s with
      hostRead := s.notices.value
      notices := { s.notices.afterRead x.kind with detail := x.particulars }
      sweep := s.sweep.afterRead x.kind }

/-- AREA_WRITE (R162): taken in IDLE, bits 1..0 held at 0, a waiting position write withdrawn; else ignored. -/
def execAreaWrite (value : Word) (s : State) : Host.Outcome State Fault Refusal :=
  match s.control.survey with
  | .idle =>
    .next { s with
      control := { s.control with area := value.extractLsb' 2 30 ++ (0 : BitVec 2) }
      port := { s.port with controlQueue := s.port.controlQueue.filter (fun b => b.purpose != .position) } }
  | .starting => .next s
  | .running => .next s
  | .stopping => .next s
  | .faulted => .next s

/-- INTERRUPT_ENABLE_WRITE (R162): bit 0 sets or clears the enable in every survey state. -/
def execInterruptEnableWrite (value : Word) (s : State) : Host.Outcome State Fault Refusal :=
  .next { s with control := { s.control with interruptEnable := value.getLsbD 0 } }

/-- IGNORED_REGISTER_WRITE (R162): ignored. -/
def execIgnoredRegisterWrite (_register : IgnoredRegister) (_value : Word) (s : State) :
    Host.Outcome State Fault Refusal :=
  .next s

end Sys2Proof.Machine
end

