-- ==== Sys2Proof/Machine/MemoryBus.lean ====
section
/-! DEFINITION. BURST_COMPLETE and BUS_ERROR (R175 to R177): what the completion of each burst brings about at its
requester: the reads of START (R113, R165 to R167), of plans (R114, R115, R122, R124, R126) and of baseline records
(R102, R103), and the writes of the Sheet Writer (R135 to R144) with the end of a stop (R170). -/
namespace Sys2Proof.Machine

/-! ### Baseline reads (R102, R103) -/

/-- The number of words of a baseline record: 520 bytes. -/
def baselineRecordWords : Nat := 130

/-- The condition of a record read, for a station number (R103). -/
def baselineCondition (station : Int) (record : List Word) : BaselineCondition :=
  if intAt record 0 ≠ station then .mismatch
  else if (wordAt record 1).getLsbD 0 then .withheld
  else .present

/-- The flag a condition sets on the bank (R103). -/
def baselineFlags (c : BaselineCondition) (f : StationFlags) : StationFlags :=
  match c with
  | .mismatch => { f with baseMismatch := true }
  | .withheld => { f with noBaseline := true }
  | .outside => f
  | .notUsed => f
  | .present => f

/-- A baseline record judged when its last burst has arrived (R103). -/
def State.judgeBaseline (s : State) : State :=
  match s.comparator.bank with
  | none => s
  | some i =>
    let c := baselineCondition (s.bank i).first s.comparator.record
    let s1 := s.setBank i { s.bank i with flags := baselineFlags c (s.bank i).flags }
    { s1 with comparator := { s1.comparator with phase := .comparing, condition := some c } }

/-- Words of a baseline record arrived (R102). -/
def State.baselineArrived (s : State) (data : List Word) : State :=
  let record := s.comparator.record ++ data
  let s1 := { s with comparator := { s.comparator with record := record } }
  if baselineRecordWords ≤ record.length then s1.judgeBaseline else s1

/-! ### Loads (R113 to R116, R124, R126) -/

/-- START given up: the survey returns to IDLE, the Chainage Unit HELD (R22), and the position block is written where an
area header has been accepted (R165, R166, R172). In every other survey state there is no START to give up. -/
def State.abandonStart (s : State) : State :=
  match s.control.survey with
  | .starting =>
    ({ s with
      control := { s.control with survey := .idle, startPhase := .unset }
      positionDue := s.positionDue || s.control.geometry.isSome }).leaveSurveying .held
  | .idle => s
  | .running => s
  | .stopping => s
  | .faulted => s

/-- A calibration or a plan refused: SETUP_FAULT, and at START the return to IDLE (R117, R126, R166). -/
def State.refuseSetup (s : State) (r : SetupRefusal) : State :=
  (s.refuseLoad r).abandonStart

/-- A plan set made INVALID with no mark and no reference (R126, R128). -/
def PlanSet.invalidated (p : PlanSet) : PlanSet :=
  { p with status := .invalid, mark := .unmarked, references := 0 }

/-- Both plan sets made INVALID, and the load none (R126, R128). -/
def State.invalidateSets (s : State) : State :=
  { s with loader := { s.loader with
      setX := s.loader.setX.invalidated, setY := s.loader.setY.invalidated, load := .idle } }

/-- The plan of START loaded into set X: both sets INVALID first, and START given up where the load is refused at its
place (R126, R166). -/
def State.loadStartPlan (s : State) : State :=
  let s1 := { s with control := { s.control with startPhase := .plan } }
  let s2 := s1.invalidateSets.beginLoad .x s.control.planOffset.toNat
  match s2.loader.load with
  | .idle => s2.abandonStart
  | .waiting _ _ => s2
  | .copying _ _ _ _ => s2

/-- The calibration block arrived whole: checked, and made the calibration in force or refused (R113). -/
def State.checkCalibration (s : State) (offset : Nat) (ws : List Word) : State :=
  match firstFailing (calibrationChecks ws) with
  | some field => s.refuseSetup (.badRange, offset + field)
  | none =>
    ({ s with loader := { s.loader with
        calibration := some (readCalibration ws), calibrationWords := [] } }).loadStartPlan

/-- The calibration offset of the area geometry. -/
def State.calibrationOffset (s : State) : Nat :=
  (s.control.geometry.map Geometry.calibrationOffset).getD 0

/-- Words of the calibration block arrived: its second burst is asked for, or the block is whole (R113). DESIGN CHOICE, unsafe
(assumption 28): R113 gives the two bursts and their ascending order, not when the second is asked for; here it is when the
first has arrived. -/
def State.calibrationArrived (s : State) (data : List Word) : State :=
  let ws := s.loader.calibrationWords ++ data
  if ws.length < 22 then
    ({ s with loader := { s.loader with calibrationWords := ws } }).place .loader
      [readBurst .calibration (s.calibrationOffset + 4 * ws.length) (22 - ws.length)]
  else s.checkCalibration s.calibrationOffset ws

/-- The calibration block's place judged and its first burst asked for (R113), the second only when that one has arrived
(DESIGN CHOICE, unsafe, assumption 28). -/
def State.beginCalibration (s : State) : State :=
  let offset := s.calibrationOffset
  if offset % 4 ≠ 0 ∨ s.areaSize < offset + calibrationLength then s.refuseSetup (.badSpan, offset)
  else
    ({ s with loader := { s.loader with calibrationWords := [] } }).place .loader [readBurst .calibration offset 22]

/-- The leading fields of the area header arrived: refused, or accepted as the area geometry (R165). -/
def State.headerArrived (s : State) (ws : List Word) : State :=
  match areaHeaderRefusal s.control.area ws with
  | some r => (s.raiseSetupFault r).abandonStart
  | none =>
    ({ s with control := { s.control with
        geometry := some (readGeometry ws), startPhase := .calibration } }).beginCalibration

/-- The Chainage Unit initialised (R29). -/
def State.initialiseChainage (s : State) : State :=
  { s with chainage := { s.chainage with
      chainage := s.calibration.startChainage * 1024, tracker := .tracking, marker := none,
      lineReference := some s.lines, mode := .counting } }

/-- The Sheet Writer initialised: its collections emptied, SHEET_STARVED and the unannounced-sheet list cleared, and the
QUEUED roster writes placed (R135, R160). -/
def State.initialiseSheets (s : State) (g : Geometry) : State :=
  ({ s with
    sheets :=
      { sheetCount := g.sheetCount, sheetSize := g.sheetSize, sheetBase := g.sheetBase, queue := [], lost := 0,
        runLost := 0, freeSheets := [], filling := none, closedSheets := [], sequence := 0, drain := .still,
        stopMode := .unset, endWaiting := false, endWritten := none }
    notices := { s.notices with starved := none, unannounced := [] } }).place .writer
      ((List.range g.sheetCount).map (fun k => rosterBurst k .queued 0 .queuedEntry))

/-- Steps 1 to 3 of INITIALISING, one event (R167). -/
def State.initialiseBlocks (s : State) : State :=
  let s1 := { s with control := { s.control with startPhase := .initialising } }
  let s2 := s1.initialiseChainage
  let s3 := { s2 with accumulator := { s2.accumulator with openingCounter := 0 } }
  s3.initialiseSheets (s.control.geometry.getD
    { areaSize := 0, calibrationOffset := 0, sheetCount := 0, sheetSize := 0, sheetBase := 0 })

/-- What has arrived of a plan copied into the target set (R114). -/
def State.copyArrived (s : State) (target : SetId) (ws : List Word) : State :=
  s.setPlanSet target { s.planSet target with tables := readArrived ws }

/-- A load that has passed every check: PENDING for a PLAN post (R124), ACTIVE at START (R126). Its tables have been copied
into the target set as they arrived (R114). -/
def State.loadPassed (s : State) (target : SetId) (offset : Nat) (ws : List Word) : State :=
  let mark : SetMark := if s.control.survey = .starting then .active else .pending
  let s1 := s.setPlanSet target
    { s.planSet target with
      status := .loaded, mark := mark, generation := natAt ws 1, offset := offset }
  let s2 := { s1 with loader := { s1.loader with load := .idle } }
  if s2.control.survey = .starting then s2.initialiseBlocks else s2

/-- The next burst of a plan asked for: the words from word `n` on, of `total` words in all (R114, R122). -/
def State.askPlan (s : State) (target : SetId) (offset : Nat) (phase : LoadPhase) (purpose : Purpose) (ws : List Word)
    (total : Nat) : State :=
  ({ s with loader := { s.loader with load := .copying target offset phase ws } }).place .loader
    [readBurst purpose (offset + 4 * ws.length) (total - ws.length)]

/-- Words of the plan header arrived: judged when it is whole, and then the copying into the target set begun (R114). -/
def State.planHeaderArrived (s : State) (target : SetId) (offset : Nat) (ws : List Word) : State :=
  if ws.length < 22 then s.askPlan target offset .header .planHeader ws 22
  else
    match planHeaderRefusal s.areaSize offset ws with
    | some r => s.refuseSetup r
    | none => (s.copyArrived target ws).askPlan target offset .arrays .planArrays ws (planLength ws / 4)

/-- Words of the arrays arrived: copied into the target set, and the whole judged after the last (R114, R115). -/
def State.planArraysArrived (s : State) (target : SetId) (offset : Nat) (ws : List Word) : State :=
  let s1 := s.copyArrived target ws
  if ws.length < planLength ws / 4 then s1.askPlan target offset .arrays .planArrays ws (planLength ws / 4)
  else
    match planArraysRefusal offset ws with
    | some r => s1.refuseSetup r
    | none => s1.loadPassed target offset ws

/-- Words of a plan arrived, in the phase the load is in. -/
def State.planArrived (s : State) (data : List Word) : State :=
  match s.loader.load with
  | .copying target offset .header ws => s.planHeaderArrived target offset (ws ++ data)
  | .copying target offset .arrays ws => s.planArraysArrived target offset (ws ++ data)
  | .waiting _ _ => s
  | .idle => s

/-! ### START completed (R167) -/

/-- The intake opened at the end of START (R5), with its effects on the Cant Input (R47) and on LINK_FAULT (R152). -/
def State.openIntake (s : State) : State :=
  { s with
    sweep := { s.sweep with
      intake := .opened, receiver := .waiting, lastGood := none, runFaults := 0, latch := false, markTimer := true }
    cant := { history := [], failures := 0, readInFlight := false }
    notices := { s.notices with linkFault := none } }

/-- The first station opened (R29, R57, R126): the peak at the chainage, the mode SURVEYING. -/
def State.openFirstStation (s : State) : State :=
  let station := s.stationNow
  let s1 := (s.openStationIn s.freshBank station).announcePlan station
  { s1 with chainage := { s1.chainage with peak := s1.chainage.chainage, mode := .surveying } }

/-- Draining begun: the free sheet queue filled and READY (R135). -/
def State.beginDraining (s : State) : State :=
  ({ s with sheets := { s.sheets with
      freeSheets := List.range s.sheets.sheetCount, drain := .ready } }).lookAtHead

/-- START completed in one event (R167). -/
def State.completeStart (s : State) : State :=
  let s1 := s.openFirstStation.sendRun.openIntake
  (({ s1 with control := { s1.control with survey := .running, startPhase := .unset } }).beginDraining).callPosition

/-- The last QUEUED roster write made (R135, R167): only a START in phase INITIALISING has an initialisation to end. -/
def State.endInitialising (s : State) : State :=
  match s.control.survey, s.control.startPhase with
  | .starting, .initialising => s.completeStart
  | _, _ => s

/-! ### The Sheet Writer's writes (R137 to R140, R144) -/

/-- The close after a record written (R140): END closes its sheet, and a station-kind record does when the ACTIVE set's
close-after count is 1 or more and reached. -/
def closesAfter (k : RecordKind) (closeAfter stations : Nat) : Bool :=
  k.isEnd || (k.isStation && decide (1 ≤ closeAfter) && decide (closeAfter ≤ stations))

/-- The filling sheet after a record has been written into it (R138). -/
def Filling.withRecord (f : Filling) (r : Record) : Filling :=
  { f with
    writeOffset := f.writeOffset + 4 * r.length, records := f.records + 1,
    stations := f.stations + r.kind.isStation.toNat }

/-- END admitted from its wait at the end of a record's write (R134). -/
def State.admitWaitingEnd (s : State) : State :=
  if s.sheets.endWaiting then
    ({ s with sheets := { s.sheets with endWaiting := false } }).enqueue (s.buildEnd .finish 0)
  else s

/-- The head record's last word written: the record leaves the queue (R138). -/
def State.recordWritten (s : State) : State :=
  match s.sheets.queue, s.sheets.filling with
  | q :: rest, some f =>
    let f1 := f.withRecord q.record
    let s1 := ({ s with sheets := { s.sheets with
        queue := rest
        filling := some f1
        endWritten := if q.record.kind.isEnd then q.record.body.head? else s.sheets.endWritten } }).admitWaitingEnd
    if closesAfter q.record.kind s.activeTables.closeAfter f1.stations then s1.beginClose
    else ({ s1 with sheets := { s1.sheets with drain := .ready } }).lookAtHead
  | _, _ => s

/-- The stop written: the Sheet Writer STILL with no sheet held, STOP sent, the survey IDLE, both sets INVALID, STOPPED raised and the
position block called for (R144, R170). Only a survey that is STOPPING, in phase ENDING, has a stop to end. -/
def State.stopWritten (s : State) : State :=
  match s.control.survey, s.control.stopPhase with
  | .stopping, .ending =>
    let w := s.sheets.endWritten.getD 0
    let s1 := ({ s with sheets := { s.sheets with
        freeSheets := [], filling := none, closedSheets := [], drain := .still, endWritten := none } }).sendStop
    let s2 := ({ s1 with
      control := { s1.control with survey := .idle, stopPhase := .unset, stopMode := .unset } }).leaveSurveying .held
    (s2.invalidateSets.raiseStopped (BitVec.setWidth 24 (w.extractLsb' 0 16))
      (BitVec.setWidth 32 (w.extractLsb' 16 16))).callPosition
  | _, _ => s

/-- The HELD roster writes at the end of a stop, or the stop written where there are none (R144). -/
def State.beginHeld (s : State) : State :=
  match s.sheets.freeSheets with
  | [] => s.stopWritten
  | k :: rest => s.place .writer ((k :: rest).map (fun n => rosterBurst n .held 0 .heldEntry))

/-- The CLOSED roster entry written: the sheet joins the closed list and is announced; then READY, or the end of a stop
(R140, R144, R158). -/
def State.closeWritten (s : State) : State :=
  match s.sheets.filling with
  | none => s
  | some f =>
    let s1 := { s with
      sheets := { s.sheets with filling := none, closedSheets := s.sheets.closedSheets ++ [f.sheet] }
      notices := { s.notices with unannounced := s.notices.unannounced ++ [f.sheet] } }
    match s1.sheets.endWritten with
    | some _ => s1.beginHeld
    | none => ({ s1 with sheets := { s1.sheets with drain := .ready } }).lookAtHead

/-- No burst of a purpose remains in the Sheet Writer's queue. -/
def State.noneLeft (s : State) (p : Purpose) : Bool :=
  s.port.writerQueue.all (fun b => b.purpose != p)

/-! ### Completion -/

/-- What the completion of a burst brings about at its requester (R175). The area header and the calibration block are
read by a START alone (R165, R166). -/
def State.deliver (s : State) (p : Purpose) (data : List Word) : State :=
  match p with
  | .baseline => s.baselineArrived data
  | .sheetHeader => s
  | .fillingEntry => s.beginRecord
  | .record => if s.noneLeft .record then s.recordWritten else s
  | .finalHeader => s
  | .closedEntry => s.closeWritten
  | .returnedEntry => s
  | .queuedEntry => if s.noneLeft .queuedEntry then s.endInitialising else s
  | .heldEntry => if s.noneLeft .heldEntry then s.stopWritten else s
  | .areaHeader => if s.control.survey = .starting then s.headerArrived data else s
  | .position => s
  | .calibration => if s.control.survey = .starting then s.calibrationArrived data else s
  | .planHeader => s.planArrived data
  | .planArrays => s.planArrived data

/-- The grant taken off the port, the words of a write in the memory (R175). -/
def State.endGrant (s : State) (g : Grant) : State :=
  match g.burst.transfer with
  | .read _ => { s with port := { s.port with grant := none } }
  | .write ws => { s with port := { s.port with grant := none }, memory := s.memory.writeWords g.address ws }

/-- The words a completed burst delivers to its requester: the first n for a read of n words. -/
def Grant.delivered (g : Grant) (data : Vector Word 16) : List Word :=
  match g.burst.transfer with
  | .read n => data.toList.take n
  | .write _ => []

/-- BURST_COMPLETE (R175): the completion is reported to the requester, unless it has given the burst up, and the next
burst is granted; with no grant in progress none completes. -/
def execBurstComplete (data : Vector Word 16) (s : State) : Host.Outcome State Fault Refusal :=
  match s.port.grant with
  | none => .next s
  | some g =>
    if g.abandoned then .next (s.endGrant g).settle
    else .next ((s.endGrant g).deliver g.burst.purpose (g.delivered data)).settle

/-- BUS_ERROR (R177): the grant in progress ends, and the survey enters FAULTED with cause BUS and the area offset of the
burst's first word; with no grant in progress none ends. -/
def execBusError (s : State) : Host.Outcome State Fault Refusal :=
  match s.port.grant with
  | none => .next s
  | some g => .next (s.failGrant.enterFaulted .bus (natWord g.burst.offset))

end Sys2Proof.Machine
end

