-- ==== Sys2Proof/Machine/Posts.lean ====
section
/-! DEFINITION. The posts (para 10.2, R163): START, PLAN, RETURN, STOP_FINISH, STOP_DROP, RESET, a post of an unknown
kind; and the full reset (R174). A refused post changes nothing but the last post. -/
namespace Sys2Proof.Machine

/-! ### START and PLAN -/

/-- A START accepted: STARTING in phase HEADER, no geometry, no calibration in force, the six leading fields asked for
(R165, R179). -/
def State.acceptStart (s : State) (offset : BitVec 24) : State :=
  ({ s with
    control := { s.control with survey := .starting, startPhase := .header, planOffset := offset, geometry := none }
    loader := { s.loader with calibration := none, calibrationWords := [] } }).place .control
      [readBurst .areaHeader 0 6]

/-- START (R163, R165): accepted in IDLE. -/
def execStart (offset : BitVec 24) (s : State) : Host.Outcome State Fault Refusal :=
  match s.control.survey with
  | .idle => .next ((s.acceptStart offset).recordPost 1 .ok).settle
  | .starting => .next (s.recordPost 1 .badState)
  | .running => .next (s.recordPost 1 .badState)
  | .stopping => .next (s.recordPost 1 .badState)
  | .faulted => .next (s.recordPost 1 .badState)

/-- The set that does not carry ACTIVE, the target of a PLAN post (R120). -/
def State.spareSet (s : State) : SetId :=
  if s.loader.setX.mark = .active then .y else .x

/-- A PLAN accepted (R120, R123): any load superseded; then the load begins, or waits for a set that is LOADED, unmarked
and referenced. -/
def State.acceptPlan (s : State) (offset : BitVec 24) : State :=
  let s1 := s.cancelLoad
  let target := s1.spareSet
  let p := s1.planSet target
  if p.status = .loaded ∧ p.mark = .unmarked ∧ 0 < p.references then
    { s1 with loader := { s1.loader with load := .waiting target offset.toNat } }
  else s1.beginLoad target offset.toNat

/-- PLAN (R120, R163): accepted in RUNNING. -/
def execPlan (offset : BitVec 24) (s : State) : Host.Outcome State Fault Refusal :=
  match s.control.survey with
  | .running => .next ((s.acceptPlan offset).recordPost 2 .ok).settle
  | .idle => .next (s.recordPost 2 .badState)
  | .starting => .next (s.recordPost 2 .badState)
  | .stopping => .next (s.recordPost 2 .badState)
  | .faulted => .next (s.recordPost 2 .badState)

/-! ### RETURN -/

/-- Starvation ended by a sheet given back: SHEET_STARVED cleared, and the sheet taken (R139, R154). -/
def State.endStarvation (s : State) : State :=
  match s.sheets.drain with
  | .starved => ({ s with notices := { s.notices with starved := none } }).takeSheet
  | .still => s
  | .ready => s
  | .opening => s
  | .writing => s
  | .closing => s

/-- A sheet's HELD entry, where the HELD writes at the end of a stop are being made (R144). -/
def State.holdReturned (s : State) (sheet : Nat) : State :=
  if s.sheets.endWritten.isSome ∧ s.sheets.filling = none then
    s.place .writer [rosterBurst sheet .held 0 .heldEntry]
  else s

/-- A RETURN accepted for a sheet of the closed list (R141, R143). -/
def State.acceptReturn (s : State) (sheet : Nat) : State :=
  let s1 := { s with
    sheets := { s.sheets with
      closedSheets := s.sheets.closedSheets.erase sheet, freeSheets := s.sheets.freeSheets ++ [sheet] }
    notices := { s.notices with unannounced := s.notices.unannounced.erase sheet } }
  ((s1.placeAtWriterHead (rosterBurst sheet .queued 0 .returnedEntry)).holdReturned sheet).endStarvation

/-- A RETURN judged by the Sheet Writer (R141): accepted only for a number in the closed list. -/
def State.judgeReturn (s : State) (sheet : Nat) : State :=
  if sheet ∈ s.sheets.closedSheets then ((s.acceptReturn sheet).recordPost 3 .ok).settle
  else s.recordPost 3 .badArg

/-- RETURN (R141, R163): taken in RUNNING and STOPPING. -/
def execReturnSheet (sheet : BitVec 24) (s : State) : Host.Outcome State Fault Refusal :=
  match s.control.survey with
  | .running => .next (s.judgeReturn sheet.toNat)
  | .stopping => .next (s.judgeReturn sheet.toNat)
  | .idle => .next (s.recordPost 3 .badState)
  | .starting => .next (s.recordPost 3 .badState)
  | .faulted => .next (s.recordPost 3 .badState)

/-! ### STOP_FINISH -/

/-- The OPEN bank, if there is one, closed CUT_SHORT, its span as it stands (R77). -/
def State.closeCutShort (s : State) : State :=
  match s.openBank with
  | none => s
  | some i => s.closeBank i (s.bank i).span true

/-- A STOP_FINISH accepted (R169): STOPPING and DRAINING; the revolution being received discarded, the intake closed, the
Chainage Unit COUNTING, the open station closed, a load cancelled, the Sheet Writer's stop mode FINISH. -/
def State.acceptStopFinish (s : State) : State :=
  let s1 := ({ s with control := { s.control with
      survey := .stopping, stopPhase := .draining, stopMode := .finish } }).callPosition
  let s2 := ((s1.discardCurrent .waiting).shutIntake.leaveSurveying .counting).closeCutShort.cancelLoad
  ({ s2 with sheets := { s2.sheets with stopMode := .finish } }).advanceEvaluation

/-- STOP_FINISH (R163, R169): accepted in RUNNING. -/
def execStopFinish (_argument : BitVec 24) (s : State) : Host.Outcome State Fault Refusal :=
  match s.control.survey with
  | .running => .next (s.acceptStopFinish.recordPost 4 .ok).settle
  | .idle => .next (s.recordPost 4 .badState)
  | .starting => .next (s.recordPost 4 .badState)
  | .stopping => .next (s.recordPost 4 .badState)
  | .faulted => .next (s.recordPost 4 .badState)

/-! ### STOP_DROP -/

/-- The bursts of a record in the course of writing: those not granted withdrawn, the one granted given up (R145). -/
def State.withdrawRecord (s : State) : State :=
  let s1 : State := { s with port := { s.port with
    writerQueue := s.port.writerQueue.filter (fun b => b.purpose != .record) } }
  match s1.port.grant with
  | some g => if g.burst.purpose = .record then s1.abandonGrant .writer else s1
  | none => s1

/-- The output queue cleared of every record but an END already admitted, which takes mode DROP and the cleared count;
then that END is considered, or END of DROP is offered (R145). -/
def State.clearQueue (s : State) : State :=
  let ends := s.sheets.queue.filter (fun q => q.record.kind.isEnd)
  let cleared := s.sheets.queue.length - ends.length
  let s1 := s.withdrawRecord
  let s2 : State := { s1 with sheets := { s1.sheets with
    stopMode := .drop
    endWaiting := false
    queue := ends.map (Queued.escalate cleared)
    drain := if s1.sheets.drain = .writing then .ready else s1.sheets.drain } }
  match ends with
  | [] => s2.offerEnd .drop cleared
  | _ :: _ => s2.lookAtHead

/-- All work in hand thrown away (R171): the load cancelled, every bank freed, the assessments ended, the intake closed
with every buffer emptied, the Chainage Unit COUNTING, the queue cleared, and ENDING. -/
def State.dropWork (s : State) : State :=
  let s1 := ((s.cancelLoad.dropBanks.dropAssessments).shutIntakeEmptied).leaveSurveying .counting
  ({ s1 with control := { s1.control with stopPhase := .ending, stopMode := .drop } }).clearQueue

/-- The write of the END of a STOP_FINISH has begun, or has been made (R145, R171). -/
def State.endBegun (s : State) : Bool :=
  s.sheets.endWritten.isSome ||
    (s.sheets.drain == .writing && (s.sheets.queue.head?.map (fun q => q.record.kind.isEnd)).getD false)

/-- A STOP_DROP taken in STOPPING: an escalation, unless the stop is a DROP already or END's write has begun (R171). -/
def State.escalateStop (s : State) : State :=
  if s.control.stopMode = .drop ∨ s.endBegun = true then s else s.dropWork

/-- STOP_DROP (R163, R171): accepted in RUNNING and STOPPING. -/
def execStopDrop (_argument : BitVec 24) (s : State) : Host.Outcome State Fault Refusal :=
  match s.control.survey with
  | .running =>
    .next (({ s with control := { s.control with survey := .stopping } }.callPosition.dropWork).recordPost 5 .ok).settle
  | .stopping => .next (s.escalateStop.recordPost 5 .ok).settle
  | .idle => .next (s.recordPost 5 .badState)
  | .starting => .next (s.recordPost 5 .badState)
  | .faulted => .next (s.recordPost 5 .badState)

/-! ### Resets and unknown posts -/

/-- RESET (R174): a soft reset in any survey state; AREA and CONTROL are kept, and the last post is RESET, OK (R164). -/
def execReset (_argument : BitVec 24) (s : State) : Host.Outcome State Fault Refusal :=
  .next (s.resetBlocks 6 s.control.area s.control.interruptEnable)

/-- UNKNOWN_POST_KIND (R163): refused with BAD_ARG. -/
def execUnknownPostKind (kind : BitVec 8) (_argument : BitVec 24) (s : State) : Host.Outcome State Fault Refusal :=
  .next (s.recordPost kind .badArg)

/-- FULL_RESET (R174): AREA and CONTROL become 0, and the last post is kind 0, OK (R164). -/
def execFullReset (s : State) : Host.Outcome State Fault Refusal :=
  .next (s.resetBlocks 0 0 false)

end Sys2Proof.Machine
end

