-- ==== Sys2Proof/Machine/SweepLink.lean ====
section
/-! DEFINITION. The commands of the scanner link and its mark timer (chapter 1): SAMPLE_WORD, GOOD_MARK, FILL_WORD,
HALT_WORD, WORD_ERROR and MARK_TIMER_EXPIRY. While the intake is CLOSED every word is dropped on arrival (R1, R20). -/
namespace Sys2Proof.Machine

/-- The greatest number of samples a buffer holds (R6). -/
def bufferLimit : Nat := 8192

/-- A sample stored at the end of a buffer (R6). -/
def State.storeSample (s : State) (i : BufferId) (x : Sample) : State :=
  s.setBuffer i { s.buffer i with samples := (s.buffer i).samples ++ [x] }

/-- SAMPLE_WORD (R6): stored in RECEIVING, or an overrun when the count stands at 8192; else dropped. -/
def execSampleWord (angle : BitVec 12) (range : BitVec 14) (strength : BitVec 6) (s : State) :
    Host.Outcome State Fault Refusal :=
  match s.sweep.intake, s.sweep.receiver, s.sweep.current with
  | .opened, .receiving, some r =>
    if (s.buffer r.buffer).samples.length < bufferLimit then
      .next (s.storeSample r.buffer { angle := angle, range := range, strength := strength })
    else .next (s.discardCurrent .discard).advanceEvaluation.settle
  | _, _, _ => .next s

/-- FILL_WORD (R1): dropped in every receiver state, the mark timer not restarted. -/
def execFillWord (s : State) : Host.Outcome State Fault Refusal :=
  .next s

/-- WORD_ERROR (R7): spoils the revolution being received, or is dropped. -/
def execWordError (s : State) : Host.Outcome State Fault Refusal :=
  match s.sweep.intake, s.sweep.receiver with
  | .opened, .receiving => .next (s.discardCurrent .discard).advanceEvaluation.settle
  | _, _ => .next s

/-! ### Good MARKs -/

/-- The WINDOW flag of a MARK: payload bit 8. -/
def markWindow (headFlags : BitVec 8) : Bool :=
  headFlags.getLsbD 0

/-- The SLOW flag of a MARK: payload bit 9. -/
def markSlow (headFlags : BitVec 8) : Bool :=
  headFlags.getLsbD 1

/-- What every good MARK does while the intake is OPEN: last good revolution number, mark timer, cant read (R3, R43).
A read is issued on the cant line only when none is in flight. -/
def State.noteMark (s : State) (revolution : BitVec 16) : State :=
  let s1 := { s with sweep := { s.sweep with lastGood := some revolution, markTimer := true } }
  match s1.cant.readInFlight with
  | true => s1
  | false => { s1 with cant := { s1.cant with readInFlight := true }, sent := s1.sent ++ [.cantRead] }

/-- A revolution is complete at its closing MARK, its tag apart (R9). -/
def State.completeAt (s : State) (r : Revolution) (revolution : BitVec 16) (headFlags : BitVec 8) : Bool :=
  let n := (s.buffer r.buffer).samples.length
  decide (s.calibration.nmin ≤ n) && decide (n ≤ s.calibration.nmax) && decide (revolution = r.opening + 1) &&
    !markSlow headFlags

/-- A complete revolution handed over: its buffer HANDED at the tail of the handover order, its WINDOW indication the
two MARKs' (R10, R13). -/
def State.handOver (s : State) (r : Revolution) (t : Tag) (revolution : BitVec 16) (headFlags : BitVec 8) : State :=
  let s1 := s.setBuffer r.buffer { s.buffer r.buffer with phase := .handed }
  { s1 with sweep := { s1.sweep with
      current := none
      handover := s1.sweep.handover ++
        [{ buffer := r.buffer, tag := t, window := r.window || markWindow headFlags, opening := r.opening,
           closing := revolution }] } }

/-- The revolution being received judged at its closing MARK: handed over, or discarded and reported (R8, R9). -/
def State.judgeRevolution (s : State) (revolution : BitVec 16) (headFlags : BitVec 8) : State :=
  match s.sweep.receiver, s.sweep.current with
  | .receiving, some r =>
    match r.tag with
    | some t =>
      if s.completeAt r revolution headFlags then s.handOver r t revolution headFlags
      else (s.discardCurrent .discard).advanceEvaluation
    | none => s.discardCurrent .discard
  | _, _ => s

/-- The FREE buffer a new revolution takes: A if it is FREE, otherwise B (R12). -/
def State.freshBuffer (s : State) : Option BufferId :=
  if s.sweep.bufferA.phase = .free then some .a
  else if s.sweep.bufferB.phase = .free then some .b
  else none

/-- A revolution tagged to a bank takes a buffer: the bank's revolutions in hand rises by one (R61). -/
def State.raiseInHand (s : State) (tag : Option Tag) : State :=
  match tag with
  | none => s
  | some t => s.setBank t.bank { s.bank t.bank with inHand := (s.bank t.bank).inHand + 1 }

/-- The revolution a good MARK opens: tagged, and received into a FREE buffer or lost for want of one (R11, R12). -/
def State.openRevolution (s : State) (revolution : BitVec 16) (headFlags : BitVec 8) : State :=
  let tag := s.tagNow
  match s.freshBuffer with
  | some i =>
    let s1 := s.setBuffer i { phase := .receiving, samples := [] }
    ({ s1 with sweep := { s1.sweep with
        receiver := .receiving
        current := some { opening := revolution, tag := tag, window := markWindow headFlags, buffer := i } } }).raiseInHand tag
  | none =>
    let s1 := { s with sweep := { s.sweep with receiver := .discard, current := none } }
    match tag with
    | some t => s1.countDiscard t
    | none => s1

/-- GOOD_MARK (R3, R8): the revolution being received is judged, the next is opened, and a buffer handed over is judged
by the Sector Accumulator. -/
def execGoodMark (revolution : BitVec 16) (headFlags : BitVec 8) (s : State) : Host.Outcome State Fault Refusal :=
  match s.sweep.intake with
  | .closed => .next s
  | .opened =>
    let s1 := (s.noteMark revolution).judgeRevolution revolution headFlags
    .next (s1.openRevolution revolution headFlags).judgeHanded.advanceEvaluation.settle

/-! ### Link faults -/

/-- A first link fault (R16): the seven acts in their order. -/
def State.firstLinkFault (s : State) (cause : LinkCause) : State :=
  let s1 := (s.discardCurrent .waiting).advanceEvaluation
  let faults := saturatingSucc 65535 s1.sweep.runFaults
  let s2 := ({ s1 with sweep := { s1.sweep with runFaults := faults } }).sendRun
  let s3 := { s2 with sweep := { s2.sweep with markTimer := true, latch := true } }
  let s4 := s3.raiseLinkFault (revolutionArgument s3.sweep.lastGood) (natWord faults)
  s4.offer (linkRecord cause s4.sweep.lastGood faults s4.chainage.chainage)

/-- A link fault: the first while the latch is clear, and otherwise the second, which ends the survey (R16, R18). -/
def State.linkFault (s : State) (cause : LinkCause) : State :=
  match s.sweep.latch with
  | false => (s.firstLinkFault cause).settle
  | true => s.enterFaulted .link (revolutionParticulars s.sweep.lastGood)

/-- HALT_WORD (R16): a link fault while the intake is OPEN. -/
def execHaltWord (s : State) : Host.Outcome State Fault Refusal :=
  match s.sweep.intake with
  | .closed => .next s
  | .opened => .next (s.linkFault .halt)

/-- MARK_TIMER_EXPIRY (R15): a link fault; a stopped timer does not expire. -/
def execMarkTimerExpiry (s : State) : Host.Outcome State Fault Refusal :=
  match s.sweep.markTimer with
  | false => .next s
  | true => .next (s.linkFault .timeout)

end Sys2Proof.Machine
end

