-- ==== Sys2Proof/Machine/Dispatch.lean ====
section
/-! DEFINITION. One arm per command. -/
namespace Sys2Proof.Machine

def exec (i : Instr) (s : State) : Host.Outcome State Fault Refusal :=
  match i with
  | .sampleWord angle range strength => Sys2Proof.Machine.execSampleWord angle range strength s
  | .goodMark revolution headFlags => Sys2Proof.Machine.execGoodMark revolution headFlags s
  | .fillWord => Sys2Proof.Machine.execFillWord s
  | .haltWord => Sys2Proof.Machine.execHaltWord s
  | .wordError => Sys2Proof.Machine.execWordError s
  | .markTimerExpiry => Sys2Proof.Machine.execMarkTimerExpiry s
  | .cantReply value good => Sys2Proof.Machine.execCantReply value good s
  | .replyTimerExpiry => Sys2Proof.Machine.execReplyTimerExpiry s
  | .odometerStep line1 line2 => Sys2Proof.Machine.execOdometerStep line1 line2 s
  | .markerArrival ident => Sys2Proof.Machine.execMarkerArrival ident s
  | .markerTaking => Sys2Proof.Machine.execMarkerTaking s
  | .commitEnd => Sys2Proof.Machine.execCommitEnd s
  | .evaluationPassEnd => Sys2Proof.Machine.execEvaluationPassEnd s
  | .comparisonPassEnd => Sys2Proof.Machine.execComparisonPassEnd s
  | .burstComplete data => Sys2Proof.Machine.execBurstComplete data s
  | .busError => Sys2Proof.Machine.execBusError s
  | .noticeRead => Sys2Proof.Machine.execNoticeRead s
  | .areaWrite value => Sys2Proof.Machine.execAreaWrite value s
  | .interruptEnableWrite value => Sys2Proof.Machine.execInterruptEnableWrite value s
  | .ignoredRegisterWrite register value => Sys2Proof.Machine.execIgnoredRegisterWrite register value s
  | .start offset => Sys2Proof.Machine.execStart offset s
  | .plan offset => Sys2Proof.Machine.execPlan offset s
  | .returnSheet sheet => Sys2Proof.Machine.execReturnSheet sheet s
  | .stopFinish argument => Sys2Proof.Machine.execStopFinish argument s
  | .stopDrop argument => Sys2Proof.Machine.execStopDrop argument s
  | .reset argument => Sys2Proof.Machine.execReset argument s
  | .unknownPostKind kind argument => Sys2Proof.Machine.execUnknownPostKind kind argument s
  | .fullReset => Sys2Proof.Machine.execFullReset s

end Sys2Proof.Machine
end

