-- ==== Sys2Proof/Safety.lean ====
section
/-! DEFINITION. What a sound state of the part is: the invariants of its blocks, each a Prop over the state as it stands
between events, in the manual's own terms. -/
namespace Sys2Proof.Machine

/-- The survey memory's record is in canonical form (the model's own form, assumption 7). -/
def State.MemorySound (s : State) : Prop :=
  s.memory.wf = true

/-- The base of the survey area is a multiple of 4 (para 10.1, R162). -/
def State.AreaAligned (s : State) : Prop :=
  s.control.area.extractLsb' 0 2 = 0

/-- Every requester's queue is empty. -/
def MemoryPort.queuesEmpty (p : MemoryPort) : Prop :=
  p.comparatorQueue = [] ∧ p.writerQueue = [] ∧ p.controlQueue = [] ∧ p.loaderQueue = []

/-- The Memory Port (R173, R176, R177): access is SHUT exactly in FAULTED; a port that is SHUT holds no burst at all; and
a port that is OPEN leaves no burst waiting while it has no grant. -/
structure State.PortSound (s : State) : Prop where
  shutIffFaulted : s.port.access = .shut ↔ s.control.survey = .faulted
  shutIsQuiet : s.port.access = .shut → s.port.grant = none ∧ s.port.queuesEmpty
  openedIsBusy : s.port.access = .opened → s.port.grant = none → s.port.queuesEmpty

/-- The modes of the blocks follow the survey state (R5, R15, R19, R22, R47, and the state table of chapter 10), and the
link fault latch is set exactly while LINK_FAULT is (R16, R18, R152). -/
structure State.ModesSound (s : State) : Prop where
  openedIffRunning : s.sweep.intake = .opened ↔ s.control.survey = .running
  timerIffOpened : s.sweep.markTimer = true ↔ s.sweep.intake = .opened
  closedWaits : s.sweep.intake = .closed → s.sweep.receiver = .waiting
  closedReadsNone : s.sweep.intake = .closed → s.cant.readInFlight = false
  receivingHasCurrent : s.sweep.receiver = .receiving ↔ s.sweep.current.isSome = true
  surveyingIffRunning : s.chainage.mode = .surveying ↔ s.control.survey = .running
  countingInStopping : s.control.survey = .stopping → s.chainage.mode = .counting
  heldInIdle : s.control.survey = .idle → s.chainage.mode = .held
  heldInFaulted : s.control.survey = .faulted → s.chainage.mode = .held
  startPhaseInStarting : s.control.startPhase = .unset ↔ s.control.survey ≠ .starting
  stopPhaseInStopping : s.control.stopPhase = .unset ↔ s.control.survey ≠ .stopping
  stopModeInStopping : s.control.stopMode = .unset ↔ s.control.survey ≠ .stopping
  trackingAtFirstOpening : s.control.startPhase = .initialising → s.chainage.tracker = .tracking
  latchFollowsNotice : s.sweep.latch = true ↔ s.notices.linkFault.isSome = true

/-- The cant line (chapter 3, R45, R46): at most four readings, each within -9000..+9000 centidegrees, a failure count
within 0..255, and a calibration whose cant zero offset passed its check. -/
structure State.CantSound (s : State) : Prop where
  historyLength : s.cant.history.length ≤ 4
  readings : ∀ x ∈ s.cant.history, -9000 ≤ x ∧ x ≤ 9000
  failures : s.cant.failures ≤ 255
  cantZero : ∀ c, s.loader.calibration = some c → -4500 ≤ c.cantZero ∧ c.cantZero ≤ 4500

/-- Chainage and peak within 48 bits (R25), under a calibration whose start chainage is a 32-bit word. -/
structure State.ChainageSound (s : State) : Prop where
  chainage : chainageMin ≤ s.chainage.chainage ∧ s.chainage.chainage ≤ chainageMax
  peak : chainageMin ≤ s.chainage.peak ∧ s.chainage.peak ≤ chainageMax
  start : ∀ c, s.loader.calibration = some c → -2147483648 ≤ c.startChainage ∧ c.startChainage ≤ 2147483647

/-- The revolution buffers (R6, R12, R13): the buffer in the state RECEIVING is that of the revolution being received, the
HANDED buffers are those of the handover order, a FREE buffer holds no sample, none holds more than 8192, and the commit in
progress is of the buffer at the head of the order. -/
structure State.BuffersSound (s : State) : Prop where
  receiving : ∀ i, (s.buffer i).phase = .receiving ↔ ∃ r, s.sweep.current = some r ∧ r.buffer = i
  handed : ∀ i, (s.buffer i).phase = .handed ↔ ∃ h ∈ s.sweep.handover, h.buffer = i
  handedOnce : (s.sweep.handover.map Handed.buffer).Nodup
  freeIsEmpty : ∀ i, (s.buffer i).phase = .free → (s.buffer i).samples = []
  sampleLimit : ∀ i, (s.buffer i).samples.length ≤ 8192
  commitIsHead : ∀ k, s.accumulator.commit = some k →
    ∃ h rest, s.sweep.handover = h :: rest ∧ h.buffer = k.buffer ∧ h.tag = k.tag

/-- The cells of a bank (chapter 4, R65, R66): least no more than second, both within 1..16383; a level sum no more than
its count times 16383; counts within 0..65535. -/
structure Bank.CellsSound (b : Bank) : Prop where
  rail : ∀ i : Sector, 1 ≤ (b.rail.get i).least ∧ (b.rail.get i).least ≤ (b.rail.get i).second ∧
    (b.rail.get i).second ≤ 16383 ∧ (b.rail.get i).count ≤ 65535
  level : ∀ i : Sector, (b.level.get i).sum ≤ (b.level.get i).count * 16383 ∧ (b.level.get i).count ≤ 65535

def State.CellsSound (s : State) : Prop :=
  s.accumulator.bank0.CellsSound ∧ s.accumulator.bank1.CellsSound

/-- R72 has been carried out: the bank at the head of the evaluation order, while CLOSING, still has a revolution in
hand. -/
def State.EvaluationsBegun (s : State) : Prop :=
  ∀ i, s.accumulator.evaluationOrder.head? = some i → (s.bank i).phase = .closing → (s.bank i).inHand ≠ 0

/-- R77 and R169 have been carried out: in the phase DRAINING of a stop a bank or a handed buffer is left. -/
def State.DrainGoesOn (s : State) : Prop :=
  s.control.survey = .stopping → s.control.stopPhase = .draining →
    ¬ (s.accumulator.bank0.phase = .free ∧ s.accumulator.bank1.phase = .free ∧ s.sweep.handover = [])

/-- The banks and the open station number (para 4.1, R28, R69, R72, R77, R78, R79, R99, R169): at most one bank is OPEN, and
only while the Chainage Unit is SURVEYING and TRACKING; the open station number is the OPEN bank's; the evaluation order
holds the banks that are CLOSING or EVALUATING, each once, and only its head is EVALUATING; the bank under assessment or
comparison is EVALUATING, and no bank is under both; but in STOPPING at most one bank is CLOSING or EVALUATING; outside
RUNNING and STOPPING, and in the phase ENDING of a stop, both are FREE; and R72 and R169 have been carried out. -/
structure State.StationsSound (s : State) : Prop where
  oneOpen : ¬ (s.accumulator.bank0.phase = .opened ∧ s.accumulator.bank1.phase = .opened)
  openTracks : ∀ i, (s.bank i).phase = .opened → s.chainage.mode = .surveying ∧ s.chainage.tracker = .tracking
  openNumber : s.chainage.openStation = s.openBank.map (fun i => (s.bank i).first)
  ordered : ∀ i, i ∈ s.accumulator.evaluationOrder ↔ ((s.bank i).phase = .closing ∨ (s.bank i).phase = .evaluating)
  orderedOnce : s.accumulator.evaluationOrder.Nodup
  evaluatingIsHead : ∀ i, (s.bank i).phase = .evaluating → s.accumulator.evaluationOrder.head? = some i
  assessed : ∀ i, s.evaluator.bank = some i → (s.bank i).phase = .evaluating
  compared : ∀ i, s.comparator.bank = some i → (s.bank i).phase = .evaluating
  notBoth : s.evaluator.bank = none ∨ s.comparator.bank = none
  oneWaits : s.control.survey ≠ .stopping → s.accumulator.evaluationOrder.length ≤ 1
  otherwiseEmpty : s.control.survey ≠ .running → s.control.survey ≠ .stopping → ∀ i, (s.bank i).phase = .free
  endingIsEmpty : s.control.stopPhase = .ending → ∀ i, (s.bank i).phase = .free
  begun : s.EvaluationsBegun
  drainGoesOn : s.DrainGoesOn

/-- The number of banks that hold a station bound to a plan set (R119). -/
def State.bound (s : State) (j : SetId) : Nat :=
  [s.accumulator.bank0, s.accumulator.bank1].countP (fun b =>
    decide (b.phase ≠ .free ∧ b.planReference.map PlanReference.set = some j))

/-- The plan sets (R118, R119, R121, R124, R126): never both ACTIVE and never both PENDING; a set that carries a mark is
LOADED, and a PENDING or an INVALID one is referenced by no bank; each reference count is the number of banks bound to the
set; the OPEN bank is bound to the ACTIVE set, and a FREE one to none; a set being loaded is INVALID and carries no mark, and
one waited for is LOADED, unmarked and referenced; in RUNNING and STOPPING, and in the phase INITIALISING of START, a set is
ACTIVE; and outside RUNNING a load finds both sets unmarked. -/
structure State.PlansSound (s : State) : Prop where
  oneActive : ¬ (s.loader.setX.mark = .active ∧ s.loader.setY.mark = .active)
  onePending : ¬ (s.loader.setX.mark = .pending ∧ s.loader.setY.mark = .pending)
  markedLoaded : ∀ j, (s.planSet j).mark ≠ .unmarked → (s.planSet j).status = .loaded
  pendingFree : ∀ j, (s.planSet j).mark = .pending → (s.planSet j).references = 0
  invalidFree : ∀ j, (s.planSet j).status = .invalid → (s.planSet j).references = 0
  counted : ∀ j, (s.planSet j).references = s.bound j
  freeUnbound : ∀ i, (s.bank i).phase = .free → (s.bank i).planReference = none
  openBound : ∀ i, (s.bank i).phase = .opened → (s.bank i).planReference.map PlanReference.set = s.activeSet
  copied : ∀ j offset phase words, s.loader.load = .copying j offset phase words →
    (s.planSet j).status = .invalid ∧ (s.planSet j).mark = .unmarked
  awaited : ∀ j offset, s.loader.load = .waiting j offset →
    (s.planSet j).status = .loaded ∧ (s.planSet j).mark = .unmarked ∧ 0 < (s.planSet j).references
  activeInSurvey : s.control.survey = .running ∨ s.control.survey = .stopping ∨ s.control.startPhase = .initialising →
    s.activeSet ≠ none
  loadUnmarked : s.control.survey ≠ .running → s.loader.load ≠ .idle →
    s.loader.setX.mark = .unmarked ∧ s.loader.setY.mark = .unmarked

/-- The output queue (R132): at most 8 records, of which at most 6 are station-kind. -/
structure State.QueueSound (s : State) : Prop where
  length : s.sheets.queue.length ≤ 8
  stations : s.sheets.queue.countP (fun q => q.record.kind.isStation) ≤ 6

/-- The sheets (R135): in RUNNING and STOPPING every sheet number 0..N-1 is in exactly one of the free sheet queue, the
filling slot and the closed list; in every other state all three are empty and the Sheet Writer is STILL; a STARVED Sheet
Writer fills none. -/
structure State.SheetsSound (s : State) : Prop where
  everySheetOnce : s.control.survey = .running ∨ s.control.survey = .stopping →
    (s.sheets.freeSheets ++ s.sheets.filling.toList.map Filling.sheet ++ s.sheets.closedSheets).Perm
      (List.range s.sheets.sheetCount)
  otherwiseNone : s.control.survey ≠ .running → s.control.survey ≠ .stopping →
    s.sheets.freeSheets = [] ∧ s.sheets.filling = none ∧ s.sheets.closedSheets = []
  otherwiseStill : s.control.survey ≠ .running → s.control.survey ≠ .stopping → s.sheets.drain = .still
  starvedFillsNone : s.sheets.drain = .starved → s.sheets.filling = none

/-- The alert list holds at most 16 entries (R155). -/
def State.AlertsSound (s : State) : Prop :=
  s.notices.alerts.length ≤ 16

/-- No position write is left to be called for between events (the model's own field, assumption 11). -/
def State.PositionSettled (s : State) : Prop :=
  s.positionDue = false

/-- The survey state changes the manual's table allows (para 10.3). A reset reaches IDLE from any state. -/
def surveyMayChange (before after : Survey) : Bool :=
  match before, after with
  | .idle, .starting => true
  | .starting, .idle => true
  | .starting, .running => true
  | .running, .stopping => true
  | .stopping, .idle => true
  | .idle, .faulted => true
  | .starting, .faulted => true
  | .running, .faulted => true
  | .stopping, .faulted => true
  | _, _ => false

/-! ### Terms the statements share -/

/-- Between events (R172, R176): no position write is left to be called for, and the port is at rest. -/
structure State.Rested (s : State) : Prop where
  settled : s.PositionSettled
  port : s.PortSound

/-- No load waits for a plan set to be released (R121). -/
def State.NoLoadWaits (s : State) : Prop :=
  ∀ target offset, s.loader.load ≠ .waiting target offset

/-- A tag does not name a station that is CLOSING. -/
def State.NotOfClosing (s : State) (tag : Option Tag) : Prop :=
  ∀ g, tag = some g → s.holdsTag g = true → (s.bank g.bank).phase ≠ .closing

/-- What R132 to R134 count with: the output queue, the lost count and the run lost total. -/
structure Tally where
  queue : List Queued
  lost : Nat
  runLost : Nat
  deriving DecidableEq, Repr

def SheetWriter.tally (w : SheetWriter) : Tally :=
  { queue := w.queue, lost := w.lost, runLost := w.runLost }

/-- The tally after a record is offered: admitted with the lost count as its lost-before field, below 6 records for a
station-kind record and below 8 for any other; else counted lost (R132, R133). -/
def Tally.offer (y : Tally) (r : Record) : Tally :=
  if y.queue.length < (if r.kind.isStation then 6 else 8) then
    { queue := y.queue ++ [{ record := r, lostBefore := y.lost }], lost := 0, runLost := y.runLost }
  else { y with lost := min 65535 (y.lost + 1), runLost := min 65535 (y.runLost + 1) }

/-- The tally after END is offered: admitted below 8 records, with the run lost total as it stands and the lost count as its
lost-before field; else END waits and the tally stands (R134). -/
def Tally.offerEnd (y : Tally) (mode : StopMode) (cleared : Nat) (chainage : Int) : Tally :=
  if y.queue.length < 8 then
    { queue := y.queue ++ [{ record := endRecord mode cleared y.runLost chainage, lostBefore := y.lost }], lost := 0,
      runLost := y.runLost }
  else y

/-- A bank after a revolution with a tag, discarded from its buffer, has been reported (R14, R61, R62): where the bank
holds the tag's station, its discarded count is raised unless it is EVALUATING, and its revolutions in hand lowered. -/
def State.bankAfterDiscard (s : State) (tag : Option Tag) (i : BankId) : Bank :=
  match tag with
  | none => s.bank i
  | some g =>
    if i = g.bank ∧ s.holdsTag g = true then
      { s.bank i with
        discarded :=
          if (s.bank i).phase = .evaluating then (s.bank i).discarded else min 65535 ((s.bank i).discarded + 1)
        inHand := (s.bank i).inHand - 1 }
    else s.bank i

/-- The bank whose last revolution in hand a revolution with a tag is, that bank CLOSING at the head of the evaluation order:
at its discard the bank becomes EVALUATING (R72). -/
def State.lastInHandOf (s : State) (tag : Option Tag) : Option BankId :=
  match tag with
  | none => none
  | some g =>
    if s.holdsTag g = true ∧ (s.bank g.bank).phase = .closing ∧ (s.bank g.bank).inHand = 1 ∧
        s.accumulator.evaluationOrder.head? = some g.bank then
      some g.bank
    else none

/-- The answer to the question for the tag of a revolution that opens (R11, R60): none while BACKED or where no bank is OPEN,
and else the OPEN bank's number with the opening number of its station. -/
structure State.AnswersTag (s : State) (tag : Option Tag) : Prop where
  backed : s.chainage.tracker = .backed → tag = none
  noneOpen : (∀ i, (s.bank i).phase ≠ .opened) → tag = none
  opened : ∀ i, s.chainage.tracker = .tracking → (s.bank i).phase = .opened →
    tag = some { bank := i, opening := (s.bank i).openingNumber }

/-- The revolution that a MARK opens between the states `s` and `t` of a survey (R8, R11, R12, R60, R61), with the tag it is
given and the buffers as they stand when the MARK's closing of the last one is done: in the FREE buffer it takes, or lost for
want of one and counted discarded against its station. `left` is how the buffers it does not take stand at the event's
end. -/
def State.RevolutionOpens (s t : State) (n : BitVec 16) (f : BitVec 8) (tag : Option Tag)
    (buffers left : BufferId → RevolutionBuffer) : Prop :=
  match (if (buffers .a).phase = .free then some BufferId.a
         else if (buffers .b).phase = .free then some BufferId.b else none) with
  | some i =>
    t.sweep.receiver = .receiving ∧
    t.sweep.current = some { opening := n, tag := tag, window := f.getLsbD 0, buffer := i } ∧
    (∀ j, t.buffer j = if j = i then { phase := .receiving, samples := [] } else left j) ∧
    (∀ j, t.bank j =
      if tag.map Tag.bank = some j then { s.bank j with inHand := (s.bank j).inHand + 1 } else s.bank j)
  | none =>
    t.sweep.receiver = .discard ∧ t.sweep.current = none ∧ (∀ j, t.buffer j = left j) ∧
    (∀ j, t.bank j =
      if tag.map Tag.bank = some j then { s.bank j with discarded := min 65535 ((s.bank j).discarded + 1) }
      else s.bank j)

/-- A commit that starts for a handed buffer, with the cant, the held indication and the strength floor of that moment
(R64). -/
def State.commitOf (s : State) (h : Handed) : Commit :=
  { buffer := h.buffer, tag := h.tag, window := h.window,
    cantOffset := cantAngleOffset (cantInUse s.cant.history),
    cantHeld := decide (s.cant.history = [] ∨ s.cant.failures ≠ 0),
    floor := (s.boundParameters h.tag.bank).floor }

/-- The number of handed buffers whose revolution is of the station a bank holds. -/
def State.handedTo (s : State) (i : BankId) : Nat :=
  s.sweep.handover.countP (fun h => decide (h.tag.bank = i) && s.holdsTag h.tag)

/-- A bank after every handed buffer has been dropped while BACKED (R61, R75): its revolutions in hand lowered by those of
its station, which are counted as discarded where it is CLOSING; and, of the commit in progress, the first `m` samples
folded. -/
def State.bankAfterDrops (s : State) (m : Nat) (i : BankId) : Bank :=
  let b := match s.accumulator.commit with
    | some k =>
      if k.tag.bank = i then
        (s.bank i).foldSamples s.calibration k.floor k.cantOffset ((s.buffer k.buffer).samples.take m)
      else s.bank i
    | none => s.bank i
  { b with
    discarded :=
      if (s.bank i).phase = .closing ∧ s.handedTo i ≠ 0 then min 65535 ((s.bank i).discarded + s.handedTo i)
      else (s.bank i).discarded
    inHand := (s.bank i).inHand - s.handedTo i }

/-- A bank of the fields `b`, in the place `i`, become EVALUATING: THIN judged by the Kr of its plan set (R73). -/
def State.evaluatingBank (s : State) (i : BankId) (b : Bank) : Bank :=
  { b with
    phase := .evaluating
    flags := { b.flags with thin := b.flags.thin || decide (b.committed < (s.boundTables i).kr) } }

/-- The Clearance Evaluator as it takes a bank (R79, R80, R82). -/
def State.evaluatorTaking (s : State) (i : BankId) : ClearanceEvaluator :=
  { phase := .assessing, bank := some i, template := (s.boundTables i).templateFor (s.boundParameters i).radius,
    tolerance := (s.boundParameters i).tolerance, warn := (s.boundParameters i).warn,
    blindLimit := (s.boundTables i).blindLimit, nextSector := 0, results := [],
    summary := { worstMargin := none, worstSector := none, encroach := 0, near := 0, blind := 0 } }

/-- A bank after the discard of a revolution with a tag has been dealt with: reported against it (R61, R62), and, where that
was the last revolution in hand of its CLOSING station, EVALUATING (R72, R73). -/
def State.bankAfterReport (s : State) (tag : Option Tag) (i : BankId) : Bank :=
  if s.lastInHandOf tag = some i then s.evaluatingBank i (s.bankAfterDiscard tag i) else s.bankAfterDiscard tag i

/-- The Clearance Evaluator after that discard: it takes the bank that has become EVALUATING (R72, R79). -/
def State.evaluatorAfterReport (s : State) (tag : Option Tag) : ClearanceEvaluator :=
  match s.lastInHandOf tag with
  | some i => s.evaluatorTaking i
  | none => s.evaluator

/-- The discard of a revolution with a tag leaves no station EMPTY: a station whose last revolution in hand it is has one
committed (R73). -/
def State.LeavesNoneEmpty (s : State) (tag : Option Tag) : Prop :=
  ∀ i, s.lastInHandOf tag = some i → (s.bank i).committed ≠ 0

/-- A bank opened with an opening number for a station at a chainage, under the set that is ACTIVE in `s` (R58, R59). -/
structure State.OpensAs (s : State) (b : Bank) (opening : BitVec 16) (station chainage : Int) : Prop where
  phase : b.phase = .opened
  openingNumber : b.openingNumber = opening
  first : b.first = station
  span : b.span = 1
  startChainage : b.startChainage = reportedChainage chainage
  endChainage : b.endChainage = none
  planReference :
    b.planReference = s.activeSet.map (fun j => { set := j, generation := (s.planSet j).generation })
  zone : b.zone = s.activeTables.zoneAt (station * (s.calibration.stationPitch : Int))
  counts : b.committed = 0 ∧ b.discarded = 0 ∧ b.inHand = 0
  boundary : b.boundaryHeld = false
  flags : b.flags = { StationFlags.clear with defaultZone := b.zone.isNone }
  rail : ∀ i : Sector, b.rail.get i = { count := 0, least := 16383, second := 16383 }
  level : ∀ i : Sector, b.level.get i = { count := 0, sum := 0 }

/-- The state with the marks passed on from the ACTIVE set to the PENDING set `p` (R125). -/
def State.switchedTo (s : State) (p : SetId) : State :=
  { s with loader := { s.loader with
      setX := { s.loader.setX with
        mark := if p = .x then .active else if s.loader.setX.mark = .active then .unmarked else s.loader.setX.mark }
      setY := { s.loader.setY with
        mark := if p = .y then .active else if s.loader.setY.mark = .active then .unmarked
                else s.loader.setY.mark } } }

/-- The state after the switch that an opening makes first: of the marks where a set is PENDING, and else none (R59, R125). -/
def State.afterSwitch (s : State) : State :=
  (s.pendingSet.map s.switchedTo).getD s

/-- A tally after the switch at the opening of station `n` at the chainage `x`: where a set is PENDING a PLAN record of cause
SWITCH has been offered (R125). -/
def State.switchTally (s : State) (y : Tally) (n x : Int) : Tally :=
  match s.pendingSet with
  | some p => y.offer (planRecord .switch p (s.planSet p).generation (s.planSet p).offset n x)
  | none => y

/-- PLAN_TAKEN after that switch: raised where a set is PENDING, with its generation and its offset (R125). -/
def State.switchNotice (s : State) : Option NoticeLatch :=
  match s.pendingSet with
  | some p => some { argument := BitVec.ofNat 24 (s.planSet p).generation,
                     particulars := BitVec.ofNat 32 (s.planSet p).offset, more := s.notices.planTaken.isSome }
  | none => s.notices.planTaken

/-- The plan sets of `t` are those of `s` with the ACTIVE set's reference count raised by one (R59, R119). -/
def State.RefersOnce (s t : State) : Prop :=
  ∀ j, t.planSet j =
    if s.activeSet = some j then { s.planSet j with references := (s.planSet j).references + 1 } else s.planSet j

/-- The plan sets of `t` are those of `s` after a station has opened under the ACTIVE set and a bank has been freed (R59,
R119). -/
def State.RefersAndReleases (s t : State) (i : BankId) : Prop :=
  ∀ j, t.planSet j = { s.planSet j with
    references := (s.planSet j).references + (if s.activeSet = some j then 1 else 0) -
      (if (s.bank i).planReference.map PlanReference.set = some j then 1 else 0) }

/-- The plan sets of `t` are those of `s` with the reference count of a bank's set lowered by one (R59, R119). -/
def State.ReleasesOnce (s t : State) (i : BankId) : Prop :=
  ∀ j, t.planSet j =
    if (s.bank i).planReference.map PlanReference.set = some j then
      { s.planSet j with references := (s.planSet j).references - 1 }
    else s.planSet j

/-- A bank freed (R59, R109): FREE, its reference, its revolutions in hand and its pending boundary given up. -/
def Bank.freed (b : Bank) : Bank :=
  { b with phase := .free, planReference := none, inHand := 0, boundaryHeld := false }

/-- Every bank is FREE and none waits for evaluation (R78). -/
def State.BanksEmpty (t : State) : Prop :=
  (∀ i, (t.bank i).phase = .free) ∧ t.accumulator.evaluationOrder = [] ∧ t.accumulator.commit = none

/-- The Sweep Port with its intake closed and every buffer emptied (R19). -/
def SweepPort.closedAndEmpty (w : SweepPort) : SweepPort :=
  { w with
    intake := .closed, receiver := .waiting, bufferA := .reset, bufferB := .reset, current := none, handover := [],
    markTimer := false }

/-- The entry of a survey that is not FAULTED into FAULTED (R173), with the cause and the particulars of FAULT. -/
structure State.FaultedAfter (s t : State) (cause : FaultCause) (particulars : Word) : Prop where
  survey : t.control = { s.control with
    survey := .faulted, startPhase := .unset, stopPhase := .unset, stopMode := .unset }
  raised : t.notices = { s.notices with
    fault := some (s.notices.fault.getD { cause := cause, particulars := particulars }) }
  shut : t.port = { comparatorQueue := [], writerQueue := [], controlQueue := [], loaderQueue := [], grant := none,
                    access := .shut }
  sweep : t.sweep = { s.sweep.closedAndEmpty with lastCommand := .stop }
  sent : t.sent = if s.sweep.lastCommand = .run then s.sent ++ [.head stopWord] else s.sent
  chainage : t.chainage = { s.chainage with mode := .held, marker := none, openStation := none }
  cant : t.cant = { s.cant with readInFlight := false }
  banks : t.BanksEmpty
  counter : t.accumulator.openingCounter = s.accumulator.openingCounter
  evaluator : t.evaluator.phase = .idle ∧ t.evaluator.bank = none
  comparator : t.comparator.phase = .idle ∧ t.comparator.bank = none
  loader : t.loader.load = .idle ∧ t.loader.calibration = s.loader.calibration
  sets : ∀ j, t.planSet j = { s.planSet j with references := (s.planSet j).references - s.bound j }
  sheets : t.sheets = { s.sheets with
    queue := [], freeSheets := [], filling := none, closedSheets := [], drain := .still, stopMode := .unset,
    endWaiting := false, endWritten := none }
  outside : t.lines = s.lines ∧ t.hostRead = s.hostRead ∧ t.pending = s.pending

/-- A change of the odometer lines that is a valid step from the line reference (R23). -/
def validChange (reference now : Levels) : Prop :=
  now = reference.forwardNext ∨ reference = now.forwardNext

/-- The chainage after a valid step from the line reference (R23, R25). -/
def steppedChainage (c : Calibration) (reference now : Levels) (chainage : Int) : Int :=
  let p : Int := if c.countSign = .positive then c.countPitch else -c.countPitch
  holdChainage (chainage + if now = reference.forwardNext then p else -p)

/-- The distance from a chainage to a peak in the declared direction (R32); negative where it is past the peak. -/
def Direction.behind (d : Direction) (peak chainage : Int) : Int :=
  match d with
  | .forward => peak - chainage
  | .backward => chainage - peak

/-- The burst granted to a requester, if one is. -/
def MemoryPort.grantedTo (p : MemoryPort) (r : Requester) : List Burst :=
  ((p.grant.filter (fun g => g.requester = r)).map Grant.burst).toList

/-- The bursts of a requester in the order they are made: the one granted, then those that wait (R143, R175, R176). -/
def MemoryPort.burstsOf (p : MemoryPort) (r : Requester) : List Burst :=
  p.grantedTo r ++
    (match r with
      | .comparator => p.comparatorQueue
      | .writer => p.writerQueue
      | .control => p.controlQueue
      | .loader => p.loaderQueue)

/-- The burst is granted or waits in its requester's queue (R175, R176). -/
def MemoryPort.asks (p : MemoryPort) (r : Requester) (b : Burst) : Prop :=
  b ∈ p.burstsOf r

/-- Survey Control's bursts after a write of the position block is called for: one that waits is replaced by the new one, in
its place (assumption 8), and where none waits the new one joins the tail (R172). -/
def MemoryPort.withPosition (p : MemoryPort) (b : Burst) : List Burst :=
  p.grantedTo .control ++
    (if p.controlQueue.any (fun x => x.purpose == .position) then
      p.controlQueue.map (fun x => if x.purpose = .position then b else x)
    else p.controlQueue ++ [b])

/-- `t` is `s` but for what follows an offer at the Sheet Writer: its own state, its bursts, the grant, and SHEET_STARVED
(R132, R136, R137, R139, R176); and, exactly where a station-kind record is admitted, the write of the position block that
Survey Control is told to make (R132, R172), with the values of the event's end (DESIGN CHOICE, assumption 8). -/
def State.SameButForWriting (s t : State) (admitted : Prop) : Prop :=
  t = { s with
    sheets := t.sheets
    notices := { s.notices with starved := t.notices.starved }
    port := { s.port with
      writerQueue := t.port.writerQueue, controlQueue := t.port.controlQueue, grant := t.port.grant } } ∧
  (admitted → t.port.burstsOf .control = s.port.withPosition t.positionBurst) ∧
  (¬ admitted → t.port.burstsOf .control = s.port.burstsOf .control)

/-- The bursts that take a sheet (R137, para 11.2, para 11.4): its header with bytes used 16 and record count 0, and its
FILLING roster entry. -/
def SheetWriter.openingBursts (w : SheetWriter) (sheet generation sequence : Nat) : List Burst :=
  [ { offset := w.sheetBase + sheet * w.sheetSize,
      transfer := .write [BitVec.ofNat 16 generation ++ BitVec.ofNat 16 sheet, BitVec.ofNat 32 sequence, 16, 0],
      purpose := .sheetHeader },
    { offset := 40 + 8 * sheet, transfer := .write [2, BitVec.ofNat 32 sequence], purpose := .fillingEntry } ]

/-- The bursts that close the filling sheet (R140, para 11.2, para 11.4): its bytes used and record count, and its CLOSED
roster entry. -/
def SheetWriter.closingBursts (w : SheetWriter) (f : Filling) : List Burst :=
  [ { offset := w.sheetBase + f.sheet * w.sheetSize + 8,
      transfer := .write [BitVec.ofNat 32 f.writeOffset, BitVec.ofNat 32 f.records], purpose := .finalHeader },
    { offset := 40 + 8 * f.sheet, transfer := .write [3, BitVec.ofNat 32 f.sequence], purpose := .closedEntry } ]

/-- The words of a queued record (para 11.5): its length in words, its kind flags and its kind; its reserved half-word and
its lost-before count; and its body. -/
def Queued.inWords (q : Queued) : List Word :=
  [ BitVec.ofNat 16 (2 + q.record.body.length) ++ q.record.flags ++ q.record.kind.code,
    q.record.reserved ++ BitVec.ofNat 16 q.lostBefore ] ++ q.record.body

/-- The bursts that write a record into the filling sheet from its write offset on, 64 bytes in each but the last (R138). -/
def SheetWriter.recordBursts (w : SheetWriter) (f : Filling) (q : Queued) : List Burst :=
  (List.range ((q.inWords.length + 15) / 16)).map (fun k =>
    { offset := w.sheetBase + f.sheet * w.sheetSize + f.writeOffset + 64 * k,
      transfer := .write ((q.inWords.drop (16 * k)).take 16), purpose := .record })

/-- A signed word, the value held within 32 bits (R25, R182). -/
def heldWord (x : Int) : Word :=
  BitVec.ofInt 32 (max (-2147483648) (min 2147483647 x))

/-- A chainage in 1/1024 mm as a record or the position block carries it: whole millimetres, rounded toward minus infinity
and held within 32 bits (R25). -/
def chainageWord (x : Int) : Word :=
  heldWord (x / 1024)

/-- The common header of a queued record (para 11.5): in the first word the kind in byte 0, the kind flags in byte 1 and the
length in words, header included, in bits 31..16; in the second the lost-before count below the reserved half-word. Then the
body. -/
structure Queued.HeadedBy (q : Queued) (kind : Nat) (ws : List Word) : Prop where
  length : ws.length = 2 + q.record.body.length
  kind : (wordAt ws 0).extractLsb' 0 8 = BitVec.ofNat 8 kind
  flags : (wordAt ws 0).extractLsb' 8 8 = q.record.flags
  lengthField : (wordAt ws 0).extractLsb' 16 16 = BitVec.ofNat 16 ws.length
  lostBefore : (wordAt ws 1).extractLsb' 0 16 = BitVec.ofNat 16 q.lostBefore
  reserved : (wordAt ws 1).extractLsb' 16 16 = q.record.reserved
  body : ws.drop 2 = q.record.body

/-- A record other than a STATION record: its reserved half-word is 0, and of its kind flags the bits 2, 1 and 0 are as given
and the others 0 (para 11.5). -/
structure Record.Plain (r : Record) (kind : RecordKind) (words : Nat) (bit2 bit1 bit0 : Bool) : Prop where
  kind : r.kind = kind
  length : 2 + r.body.length = words
  reserved : r.reserved = 0
  flags : ∀ k, r.flags.getLsbD k = (if k = 0 then bit0 else if k = 1 then bit1 else if k = 2 then bit2 else false)

/-- The fields of a STATION record (para 11.6, R73, R108): the context of its bank, the summary and the entries. -/
structure Record.StationFields (r : Record) (outcome : Nat) (b : Bank) (template : Nat) (m : ClearanceSummary)
    (deform : Nat) (deviation : Option Int) (entries : List SectorEntry) : Prop where
  kind : r.kind = .station
  length : 2 + r.body.length = 10 + 2 * entries.length
  flags : r.flags.extractLsb' 0 2 = BitVec.ofNat 2 outcome ∧ r.flags.getLsbD 2 = m.worstMargin.isSome ∧
    ∀ k, 3 ≤ k → r.flags.getLsbD k = false
  generation : ∀ p, b.planReference = some p → r.reserved = BitVec.ofNat 16 p.generation
  first : wordAt r.body 0 = BitVec.ofInt 32 b.first
  startChainage : wordAt r.body 1 = heldWord b.startChainage
  endChainage : ∀ x, b.endChainage = some x → wordAt r.body 2 = heldWord x
  committed : (wordAt r.body 3).extractLsb' 0 16 = BitVec.ofNat 16 b.committed
  discarded : (wordAt r.body 3).extractLsb' 16 16 = BitVec.ofNat 16 b.discarded
  worstMargin : (wordAt r.body 4).extractLsb' 0 16 = BitVec.ofInt 16 (m.worstMargin.getD (-32768))
  worstSector : (wordAt r.body 4).extractLsb' 16 16 =
    BitVec.ofInt 16 ((m.worstSector.map (fun (k : Nat) => (k : Int))).getD (-32768))
  deviation : (wordAt r.body 5).extractLsb' 0 16 = BitVec.ofInt 16 (deviation.getD (-32768))
  entryCount : (wordAt r.body 5).extractLsb' 16 9 = BitVec.ofNat 9 entries.length
  zone : (wordAt r.body 5).extractLsb' 25 7 = BitVec.ofNat 7 (b.zone.getD 127)
  stationFlags : ∀ k : Fin 11, (wordAt r.body 6).getLsbD k =
    [b.flags.thin, b.flags.poorCover, b.flags.cantHeld, b.flags.window, b.flags.snapped, b.flags.stretched,
      b.flags.cutShort, b.flags.odo, b.flags.defaultZone, b.flags.noBaseline, b.flags.baseMismatch].get k
  encroach : (wordAt r.body 6).extractLsb' 11 9 = BitVec.ofNat 9 m.encroach
  near : (wordAt r.body 6).extractLsb' 20 9 = BitVec.ofNat 9 m.near
  template : (wordAt r.body 6).extractLsb' 29 3 = BitVec.ofNat 3 template
  blind : (wordAt r.body 7).extractLsb' 0 9 = BitVec.ofNat 9 m.blind
  deform : (wordAt r.body 7).extractLsb' 9 9 = BitVec.ofNat 9 deform
  span : (wordAt r.body 7).extractLsb' 18 8 = BitVec.ofNat 8 b.span
  entry : ∀ k e w v, entries[k]? = some e → w = wordAt r.body (8 + 2 * k) → v = wordAt r.body (9 + 2 * k) →
    w.extractLsb' 0 8 = BitVec.ofNat 8 e.sector ∧
    w.extractLsb' 8 8 = (match e.rail.cls with
      | .masked => 0 | .ungauged => 1 | .blind => 2 | .encroach => 3 | .near => 4 | .clear => 5) ∧
    w.extractLsb' 16 8 = (match e.level.status with | .noBase => 0 | .none => 1 | .steady => 2 | .deform => 3) ∧
    v.extractLsb' 0 16 = BitVec.ofInt 16 (e.rail.margin.getD (-32768)) ∧
    v.extractLsb' 16 16 = BitVec.ofInt 16 (e.level.deviation.getD (-32768))

/-- The four words of the position block (para 11.2, R172): in the first the survey state, the tracker state and whether a
station is open, in bytes 0 to 2; the chainage; the open station number, 0 when absent; and the generation of the ACTIVE set,
0 when none is, in bits 15..0. -/
structure State.PositionWords (s : State) (ws : List Word) : Prop where
  length : ws.length = 4
  survey : (wordAt ws 0).extractLsb' 0 8 = (match s.control.survey with
    | .idle => 0 | .starting => 1 | .running => 2 | .stopping => 3 | .faulted => 4)
  tracker : (wordAt ws 0).extractLsb' 8 8 = (match s.chainage.tracker with | .tracking => 0 | .backed => 1)
  present : (wordAt ws 0).extractLsb' 16 8 = if s.chainage.openStation.isSome then 1 else 0
  chainage : wordAt ws 1 = chainageWord s.chainage.chainage
  station : wordAt ws 2 = BitVec.ofInt 32 (s.chainage.openStation.getD 0)
  generation : (∀ j, s.activeSet = some j → (wordAt ws 3).extractLsb' 0 16 = BitVec.ofNat 16 (s.planSet j).generation) ∧
    (s.activeSet = none → (wordAt ws 3).extractLsb' 0 16 = 0)

/-- What R136 begins for the record at the head of the queue, and the bursts it places: a sheet taken or starvation where
none is filling (R137, R139), the record's write where it fits (R138), and otherwise the close of the sheet (R140). With no
record in the queue the Sheet Writer stays READY. `generation` is that of the ACTIVE set. -/
def SheetWriter.looksAtHead (w : SheetWriter) (generation : Nat) : SheetWriter × List Burst :=
  match w.queue, w.filling, w.freeSheets with
  | [], _, _ => ({ w with drain := .ready }, [])
  | _ :: _, none, [] => ({ w with drain := .starved }, [])
  | _ :: _, none, k :: rest =>
    let n := if w.sequence = 4294967295 then 1 else w.sequence + 1
    ({ w with
        drain := .opening, freeSheets := rest, sequence := n
        filling := some { sheet := k, sequence := n, writeOffset := 16, records := 0, stations := 0 } },
      w.openingBursts k generation n)
  | q :: _, some f, _ =>
    if f.writeOffset + 4 * (2 + q.record.body.length) ≤ w.sheetSize then
      ({ w with drain := .writing }, w.recordBursts f q)
    else ({ w with drain := .closing }, w.closingBursts f)

/-- A calibration read from the words of its block (para 7.1, para 11.3). -/
structure Calibration.ReadFrom (c : Calibration) (ws : List Word) : Prop where
  direction : c.direction = if natAt ws 0 = 1 then .backward else .forward
  countSign : c.countSign = if natAt ws 1 = 1 then .negative else .positive
  countPitch : c.countPitch = natAt ws 2
  startChainage : c.startChainage = intAt ws 3
  stationPitch : c.stationPitch = natAt ws 4
  hysteresis : c.hysteresis = natAt ws 5
  trimCode : c.trimCode = natAt ws 6
  mountRoll : c.mountRoll = intAt ws 7
  zeroOffset : c.zeroOffset = intAt ws 8
  rmin : c.rmin = natAt ws 9
  rmax : c.rmax = natAt ws 10
  nmin : c.nmin = natAt ws 11
  nmax : c.nmax = natAt ws 12
  cantZero : c.cantZero = intAt ws 13
  mask : ∀ i, i < 256 → c.mask.getLsbD i = (wordAt ws (14 + i / 32)).getLsbD (i % 32)

/-- The field at an offset of the calibration block lies within its range (para 7.1). -/
def calibrationFieldHolds (ws : List Word) (offset : Nat) : Prop :=
  (offset = 0 → natAt ws 0 ≤ 1) ∧ (offset = 4 → natAt ws 1 ≤ 1) ∧
  (offset = 8 → 1 ≤ natAt ws 2 ∧ natAt ws 2 ≤ 65535) ∧ (offset = 16 → 100 ≤ natAt ws 4 ∧ natAt ws 4 ≤ 10000) ∧
  (offset = 20 → 20 ≤ natAt ws 5 ∧ natAt ws 5 ≤ 1000) ∧ (offset = 24 → natAt ws 6 ≤ 15) ∧
  (offset = 28 → -64 ≤ intAt ws 7 ∧ intAt ws 7 ≤ 63) ∧ (offset = 32 → -512 ≤ intAt ws 8 ∧ intAt ws 8 ≤ 511) ∧
  (offset = 36 → 100 ≤ natAt ws 9 ∧ natAt ws 9 ≤ 2000) ∧
  (offset = 40 → natAt ws 9 < natAt ws 10 ∧ natAt ws 10 ≤ 16383) ∧
  (offset = 44 → 256 ≤ natAt ws 11 ∧ natAt ws 11 ≤ 8192) ∧
  (offset = 48 → natAt ws 11 ≤ natAt ws 12 ∧ natAt ws 12 ≤ 8192) ∧
  (offset = 52 → -4500 ≤ intAt ws 13 ∧ intAt ws 13 ≤ 4500)

/-- Parameters read from the seven words from word `w` on (R80, para 11.3). -/
structure ZoneParameters.ReadFrom (z : ZoneParameters) (ws : List Word) (w : Nat) : Prop where
  radius : z.radius = intAt ws w
  tolerance : z.tolerance = intAt ws (w + 1)
  warn : z.warn = natAt ws (w + 2)
  deformLimit : z.deformLimit = natAt ws (w + 3)
  floor : z.floor = natAt ws (w + 4)
  mode : z.mode = if natAt ws (w + 5) = 1 then .full else .exceptions
  baselineUse : z.baselineUse = true ↔ natAt ws (w + 6) = 1

/-- Plan tables read from the words of a plan, with the first so many zones, bands, templates and markers of its four arrays
(para 7.2, para 11.3, R180): the zones from word 22 on, 9 words each; then the bands, 3 each; then the templates, 128 each, two
radii in a word, the even sector's in bits 15..0; then the markers, 2 each. -/
structure PlanTables.ReadFrom (p : PlanTables) (ws : List Word) (zones bands templates markers : Nat) : Prop where
  fields : p.straight = natAt ws 6 ∧ p.snapWindow = natAt ws 7 ∧ p.kr = natAt ws 8 ∧ p.km = natAt ws 9 ∧
    p.blindLimit = natAt ws 10 ∧ p.closeAfter = natAt ws 11
  baseline : p.baseline = { offset := natAt ws 12, first := intAt ws 13, count := natAt ws 14 }
  defaults : p.defaults.ReadFrom ws 15
  lengths : p.zones.length = zones ∧ p.bands.length = bands ∧ p.templates.length = templates ∧
    p.markers.length = markers
  zone : ∀ i z, p.zones[i]? = some z →
    z.first = intAt ws (22 + 9 * i) ∧ z.past = intAt ws (23 + 9 * i) ∧ z.parameters.ReadFrom ws (24 + 9 * i)
  band : ∀ i b w, p.bands[i]? = some b → w = 22 + 9 * natAt ws 2 + 3 * i →
    b.limit = natAt ws w ∧ b.left = natAt ws (w + 1) ∧ b.right = natAt ws (w + 2)
  template : ∀ i e w, p.templates[i]? = some e → w = 22 + 9 * natAt ws 2 + 3 * natAt ws 3 + 128 * i →
    e.length = 256 ∧ ∀ k, k < 256 → e.getD k 0 = ((wordAt ws (w + k / 2)).extractLsb' (16 * (k % 2)) 16).toNat
  marker : ∀ i m w, p.markers[i]? = some m →
    w = 22 + 9 * natAt ws 2 + 3 * natAt ws 3 + 128 * natAt ws 4 + 2 * i →
    m.ident = natAt ws w ∧ m.chainage = intAt ws (w + 1)

/-- The entry at a byte offset of a plan is out of order (BAD_ORDER, R115): a zone whose start is not less than its end, or
lies before the end of the zone before it; a band limit or a marker identifier not above the one before it. -/
def planOutOfOrder (ws : List Word) (offset : Nat) : Prop :=
  (∃ i w, i < natAt ws 2 ∧ w = 22 + 9 * i ∧ offset = 4 * w ∧
    (intAt ws (w + 1) ≤ intAt ws w ∨ (1 ≤ i ∧ intAt ws w < intAt ws (w - 8)))) ∨
  (∃ i w, 1 ≤ i ∧ i < natAt ws 3 ∧ w = 22 + 9 * natAt ws 2 + 3 * i ∧ offset = 4 * w ∧
    natAt ws w ≤ natAt ws (w - 3)) ∨
  (∃ i w, 1 ≤ i ∧ i < natAt ws 5 ∧ w = 22 + 9 * natAt ws 2 + 3 * natAt ws 3 + 128 * natAt ws 4 + 2 * i ∧
    offset = 4 * w ∧ natAt ws w ≤ natAt ws (w - 2))

/-- The template index at a byte offset of a plan is not less than the template count (BAD_REF, R115): the straight template
index, or a band's left or right one. -/
def planBadReference (ws : List Word) (offset : Nat) : Prop :=
  ∃ w, (w = 6 ∨ ∃ i, i < natAt ws 3 ∧
      (w = 22 + 9 * natAt ws 2 + 3 * i + 1 ∨ w = 22 + 9 * natAt ws 2 + 3 * i + 2)) ∧
    offset = 4 * w ∧ natAt ws 4 ≤ natAt ws w

/-- Of the seven parameter words from word `w` on, the one at a byte offset is outside its range (para 7.2). -/
def parameterOutOfRange (ws : List Word) (w offset : Nat) : Prop :=
  (offset = 4 * w ∧ 32767 < (intAt ws w).natAbs) ∨ (offset = 4 * (w + 1) ∧ 500 < (intAt ws (w + 1)).natAbs) ∨
  (offset = 4 * (w + 2) ∧ 2000 < natAt ws (w + 2)) ∨
  (offset = 4 * (w + 3) ∧ (natAt ws (w + 3) = 0 ∨ 1000 < natAt ws (w + 3))) ∨
  (offset = 4 * (w + 4) ∧ 63 < natAt ws (w + 4)) ∨ (offset = 4 * (w + 5) ∧ 1 < natAt ws (w + 5)) ∨
  (offset = 4 * (w + 6) ∧ 1 < natAt ws (w + 6))

/-- The field at a byte offset of a plan, of its header, its defaults or its arrays, is outside its range (BAD_RANGE, R115,
para 7.2). -/
def planFieldOutOfRange (ws : List Word) (offset : Nat) : Prop :=
  (offset = 4 ∧ 65535 < natAt ws 1) ∨ (offset = 28 ∧ 2000 < natAt ws 7) ∨ (offset = 32 ∧ 255 < natAt ws 8) ∨
  (offset = 36 ∧ (natAt ws 9 = 0 ∨ 255 < natAt ws 9)) ∨ (offset = 40 ∧ 256 < natAt ws 10) ∨
  (offset = 44 ∧ 255 < natAt ws 11) ∨ parameterOutOfRange ws 15 offset ∨
  (∃ i, i < natAt ws 2 ∧ parameterOutOfRange ws (24 + 9 * i) offset) ∨
  (∃ i w, i < natAt ws 3 ∧ w = 22 + 9 * natAt ws 2 + 3 * i ∧ offset = 4 * w ∧
    (natAt ws w = 0 ∨ 32767 < natAt ws w)) ∨
  (∃ i k w, i < natAt ws 4 ∧ k < 256 ∧ w = 22 + 9 * natAt ws 2 + 3 * natAt ws 3 + 128 * i ∧ offset = 4 * w + 2 * k ∧
    16383 < ((wordAt ws (w + k / 2)).extractLsb' (16 * (k % 2)) 16).toNat) ∨
  (∃ i w, i < natAt ws 5 ∧ w = 22 + 9 * natAt ws 2 + 3 * natAt ws 3 + 128 * natAt ws 4 + 2 * i ∧ offset = 4 * w ∧
    (natAt ws w = 0 ∨ 65535 < natAt ws w))

/-- An offset is the lowest at which something fails. -/
def isLowest (fails : Nat → Prop) (offset : Nat) : Prop :=
  fails offset ∧ ∀ lower, lower < offset → ¬ fails lower

/-- The words of a whole plan fail the checks of R115, made in their order, with a code, at the lowest offset that fails the
check (R116). -/
def planFails (ws : List Word) (code offset : Nat) : Prop :=
  (code = 4 ∧ isLowest (planOutOfOrder ws) offset) ∨
  (code = 5 ∧ (∀ a, ¬ planOutOfOrder ws a) ∧ isLowest (planBadReference ws) offset) ∨
  (code = 6 ∧ (∀ a, ¬ planOutOfOrder ws a ∧ ¬ planBadReference ws a) ∧ isLowest (planFieldOutOfRange ws) offset)

/-- `t` is `s` with START given up in the same event, SETUP_FAULT raised with a code and an offset (R117, R165, R166): the
survey IDLE and the Chainage Unit HELD. -/
def State.StartRefused (s t : State) (code offset : Nat) : Prop :=
  t = { s with
    control := { s.control with survey := .idle, startPhase := .unset }
    chainage := { s.chainage with mode := .held, marker := none, openStation := none }
    notices := { s.notices with
      setupFault := some ({ argument := BitVec.ofNat 24 code, particulars := BitVec.ofNat 32 offset,
                            more := s.notices.setupFault.isSome }) }
    port := t.port }

/-- `t` is `s`, but for the plan sets, with the load of a plan refused (R117): SETUP_FAULT raised and the load none; at START
the survey returned to IDLE, with the position block to be written (R126, R166). -/
def State.PlanRefused (s t : State) (code offset : Nat) : Prop :=
  let u : State := { s with loader := { s.loader with
    load := .idle, calibrationWords := [], setX := t.loader.setX, setY := t.loader.setY } }
  match s.control.survey with
  | .starting => u.StartRefused t code offset ∧ (s.control.geometry ≠ none → t.port.asks .control t.positionBurst)
  | _ =>
    t = { u with
      notices := { s.notices with
        setupFault := some ({ argument := BitVec.ofNat 24 code, particulars := BitVec.ofNat 32 offset,
                              more := s.notices.setupFault.isSome }) }
      port := t.port }

/-- A stop written and ended in the same event (R144, R170, R128, R172): STOP sent, the survey IDLE, the Chainage Unit HELD,
both plan sets INVALID, no sheet held, STOPPED raised with the status and the lost total of the END word written, and the
position block to be written. -/
def State.StopEnded (s t : State) (e : Word) : Prop :=
  t = { s with
    control := { s.control with survey := .idle, stopPhase := .unset, stopMode := .unset }
    sweep := { s.sweep with lastCommand := .stop }
    sent := if s.sweep.lastCommand = .run then s.sent ++ [.head stopWord] else s.sent
    chainage := { s.chainage with mode := .held, marker := none, openStation := none }
    loader := { s.loader with
      load := .idle
      setX := { s.loader.setX with status := .invalid, mark := .unmarked, references := 0 }
      setY := { s.loader.setY with status := .invalid, mark := .unmarked, references := 0 } }
    sheets := { s.sheets with
      freeSheets := [], filling := none, closedSheets := [], drain := .still, endWritten := none }
    notices := { s.notices with
      stopped := some ({ argument := (e.extractLsb' 0 16).setWidth 24,
                         particulars := (e.extractLsb' 16 16).setWidth 32,
                         more := s.notices.stopped.isSome }) }
    port := t.port
    memory := t.memory } ∧
  t.port.asks .control t.positionBurst

/-- What a release brings at the Baseline Comparator and in the alert list (R109): it is IDLE with its per-station state
given up, and an alert is offered where the encroach count or the deform count `d.1` is greater than 0. -/
structure State.ReleasesStation (s t : State) (i : BankId) (h : RailHandover) (d : Nat × Option Int) : Prop where
  comparator : t.comparator.phase = .idle ∧ t.comparator.bank = none ∧ t.comparator.rail = none ∧
    t.comparator.record = [] ∧ t.comparator.results = [] ∧ t.comparator.deformCount = 0 ∧
    t.comparator.maxDeviation = none
  alerts : (t.notices.alerts, t.notices.displaced) =
    if 0 < h.summary.encroach ∨ 0 < d.1 then
      offerAlertTo s.notices.alerts s.notices.displaced
        { station := (s.bank i).first, kind := if 0 < h.summary.encroach then .encroach else .deform,
          worstMargin := h.summary.worstMargin, worstSector := h.summary.worstSector, deformCount := d.1,
          maxDeviation := d.2 }
    else (s.notices.alerts, s.notices.displaced)

/-- The state `s` but for what a release writes: the comparator, the banks, the plan sets and the alert list as `t` has
them, and the evaluation order. -/
def State.withRelease (s t : State) (order : List BankId) : State :=
  { s with
    comparator := t.comparator
    accumulator := { s.accumulator with
      evaluationOrder := order, bank0 := t.accumulator.bank0, bank1 := t.accumulator.bank1 }
    loader := { s.loader with setX := t.loader.setX, setY := t.loader.setY }
    notices := { s.notices with alerts := t.notices.alerts, displaced := t.notices.displaced } }

/-- All work in hand thrown away by a STOP_DROP (R171, R19, R42, R78, R97, R111, R128, R145), the Sheet Writer left with the
queue of `w`: where it was READY or WRITING the record at the head of that queue is then looked at. Of the port, the reads of
the Baseline Comparator and the Plan Loader and the bursts of the record are withdrawn, and those granted given up. -/
structure State.DropsWork (s t : State) (w : SheetWriter) : Prop where
  control : t.control = { s.control with
    survey := .stopping, stopPhase := .ending, stopMode := .drop, lastKind := 5, lastResult := .ok }
  sweep : t.sweep = s.sweep.closedAndEmpty
  cant : t.cant = { s.cant with readInFlight := false }
  chainage : t.chainage = { s.chainage with mode := .counting, marker := none, openStation := none }
  banks : t.BanksEmpty
  counter : t.accumulator.openingCounter = s.accumulator.openingCounter
  evaluator : t.evaluator.phase = .idle ∧ t.evaluator.bank = none ∧ t.evaluator.results = []
  comparator : t.comparator.phase = .idle ∧ t.comparator.bank = none ∧ t.comparator.rail = none ∧
    t.comparator.record = []
  loader : t.loader.load = .idle ∧ t.loader.calibration = s.loader.calibration
  sets : ∀ j, t.planSet j = { s.planSet j with references := (s.planSet j).references - s.bound j }
  sheets : t.sheets =
    if s.sheets.drain = .ready ∨ s.sheets.drain = .writing then (w.looksAtHead s.activeGeneration).1 else w
  notices : t.notices = { s.notices with
    starved := if t.sheets.drain = .starved ∧ s.sheets.drain ≠ .starved then some (BitVec.ofNat 32 w.queue.length)
               else s.notices.starved }
  withdrawn : t.port.comparatorQueue = [] ∧ t.port.loaderQueue = []
  bursts : t.port.burstsOf .writer = s.port.grantedTo .writer ++
    s.port.writerQueue.filter (fun b => b.purpose ≠ .record) ++
    (if s.sheets.drain = .ready ∨ s.sheets.drain = .writing then (w.looksAtHead s.activeGeneration).2 else [])
  givenUp : ∀ g, s.port.grant = some g → t.port.grant = some { g with
    abandoned := g.abandoned || decide (g.requester = .comparator ∨ g.requester = .loader ∨
      (g.requester = .writer ∧ g.burst.purpose = .record)) }
  outside : t.memory = s.memory ∧ t.sent = s.sent ∧ t.lines = s.lines ∧ t.hostRead = s.hostRead ∧ t.pending = s.pending

end Sys2Proof.Machine
end

