-- ==== Sys2Proof/Certificates/Slice0/Obligations.lean ====
section
/-! DEFINITION. The statements for the provers. -/

section
open Sys2Proof Sys2Proof.Machine

/-! ### The machine -/

/-- 95_what_each_step_holds: one step is one command, whole; the order of the queue is the order in which matters that fall
together are taken. An empty queue idles (the model's choice, assumption 2). A link word of 40 bits put in front is taken
as the command that R1 makes of it (that a word of 40 bits is a link word from the head is the model's choice, assumption
27). -/
def Obligations.StepTakesTheFrontCommand : Prop :=
  (∀ (c : Instr) (rest : List Instr) (s : State),
    s.pending = c :: rest → step s = exec c { s with pending := rest }) ∧
  (∀ s : State, s.pending = [] → step s = .next s) ∧
  (∀ (w : LinkWord) (s : State), step (s.withFetchWord 40 w.toNat) = exec (linkWordCommand w) s)

/-- Every command answers a next state in every state and leaves the command queue as it stands. That one whose event cannot
occur (no commit, pass, burst or running timer) answers the state unchanged, and that the queue is no command's to touch,
are the model's own conventions (assumptions 11 and 12). -/
def Obligations.EveryCommandHasANextState : Prop :=
  ∀ (c : Instr) (s : State), ∃ t, exec c s = .next t ∧ t.pending = s.pending

/-! ### Invariants that every step keeps -/

def Obligations.ResetMeetsEveryInvariant : Prop :=
  State.reset.MemorySound ∧ State.reset.AreaAligned ∧ State.reset.Rested ∧ State.reset.ModesSound ∧
    State.reset.CantSound ∧ State.reset.ChainageSound ∧ State.reset.BuffersSound ∧ State.reset.CellsSound ∧
    State.reset.StationsSound ∧ State.reset.PlansSound ∧ State.reset.QueueSound ∧ State.reset.SheetsSound ∧
    State.reset.AlertsSound

/-- The record of the survey memory keeps its canonical form (the model's own form, assumption 7). -/
def Obligations.MemoryStaysCanonical : Prop :=
  ∀ s t : State, s.MemorySound → step s = .next t → t.MemorySound

/-- R173, R175 to R177: access is SHUT exactly in FAULTED, a SHUT port holds nothing, and an OPEN port with no grant has
nothing waiting. -/
def Obligations.PortStaysAtRest : Prop :=
  ∀ s t : State, s.Rested → step s = .next t → t.Rested

/-- R5, R15, R18, R19, R22, R42, R47, R152 and para 10: the modes of the blocks follow the survey state, and the link fault
latch stands exactly while LINK_FAULT does. -/
def Obligations.ModesFollowTheSurvey : Prop :=
  ∀ s t : State, s.ModesSound → step s = .next t → t.ModesSound

/-- R25, R45, R46, R65, R66: cant readings, chainages and cells stay within the ranges the manual gives them. -/
def Obligations.StoredNumbersStayInRange : Prop :=
  (∀ s t : State, s.CantSound → step s = .next t → t.CantSound) ∧
  (∀ s t : State, s.ChainageSound → step s = .next t → t.ChainageSound) ∧
  (∀ s t : State, s.CellsSound → step s = .next t → t.CellsSound)

/-- R6, R12, R13, R63: the buffers, the revolution being received, the handover order and the commit agree. -/
def Obligations.BuffersStaySound : Prop :=
  ∀ s t : State, s.ModesSound → s.BuffersSound → step s = .next t → t.BuffersSound

/-- Para 4.1, R28, R69, R72, R77 to R79, R99, R169: the banks, the open station number, the evaluation order and the two
assessing blocks agree; but in STOPPING at most one bank waits; outside RUNNING and STOPPING, and in the phase ENDING, every
bank is FREE; a CLOSING bank at the head of the order has a revolution in hand, and a DRAINING stop has something left. -/
def Obligations.StationsStaySound : Prop :=
  ∀ s t : State, s.ModesSound → s.StationsSound → step s = .next t → t.StationsSound

/-- R118, R119, R121, R124, R126: never both plan sets ACTIVE and never both PENDING; a PENDING set and one being loaded are
referenced by no bank; each reference count is the number of banks bound to the set, and the OPEN bank is bound to the
ACTIVE one. -/
def Obligations.PlanMarksStaySound : Prop :=
  ∀ s t : State, s.ModesSound → s.StationsSound → s.PlansSound → step s = .next t → t.PlansSound

/-- R132, R155: the output queue holds at most 8 records, at most 6 of them station-kind; the alert list at most 16. -/
def Obligations.QueueAndAlertListKeepTheirLimits : Prop :=
  (∀ s t : State, s.QueueSound → step s = .next t → t.QueueSound) ∧
  (∀ s t : State, s.AlertsSound → step s = .next t → t.AlertsSound)

/-- R135: in RUNNING and STOPPING every sheet number is in exactly one place; in the other states all three are empty and
the Sheet Writer is STILL. -/
def Obligations.EverySheetStaysInOnePlace : Prop :=
  ∀ s t : State, s.SheetsSound → step s = .next t → t.SheetsSound

/-! ### Rules of the whole machine -/

/-- Para 10.3, R173: the survey state changes only as the table of transitions gives, or to IDLE at a reset; the table has
no transition from FAULTED, which a reset alone leaves. -/
def Obligations.SurveyChangesAsTheTableGives : Prop :=
  ∀ (c : Instr) (s t : State), exec c s = .next t →
    t.control.survey = s.control.survey ∨ surveyMayChange s.control.survey t.control.survey = true ∨
      (t.control.survey = .idle ∧ (c = .fullReset ∨ ∃ a, c = .reset a))

/-- R150, R162, R174: AREA changes only by a write of it in IDLE or a full reset and stays a multiple of 4; the interrupt
enable only by a write of CONTROL or a full reset; DETAIL only by a read of NOTICE or a reset. -/
def Obligations.WindowRegistersChangeOnlyAsWritten : Prop :=
  (∀ (c : Instr) (s t : State), exec c s = .next t → t.control.area ≠ s.control.area →
    c = .fullReset ∨ (s.control.survey = .idle ∧ ∃ v, c = .areaWrite v)) ∧
  (∀ (c : Instr) (s t : State), exec c s = .next t → t.control.interruptEnable ≠ s.control.interruptEnable →
    c = .fullReset ∨ ∃ v, c = .interruptEnableWrite v) ∧
  (∀ (c : Instr) (s t : State), exec c s = .next t → t.notices.detail ≠ s.notices.detail →
    c = .noticeRead ∨ c = .fullReset ∨ ∃ a, c = .reset a) ∧
  (∀ s t : State, s.AreaAligned → step s = .next t → t.AreaAligned)

/-- R175, R177: the part changes the survey memory only at the end of a write burst, and only in that burst's words. -/
def Obligations.MemoryChangesOnlyByTheGrant : Prop :=
  ∀ (c : Instr) (s t : State), exec c s = .next t → t.memory ≠ s.memory →
    ∃ g ws, s.port.grant = some g ∧ g.burst.transfer = .write ws ∧
      ∀ a, a < g.address ∨ g.address + 4 * ws.length ≤ a → t.memory.read a = s.memory.read a

/-! ### Encodings (para 1.1, R1, para 10.1, para 10.2) -/

/-- R1, para 1.1: a link word is its kind nibble, sent first, its payload and its check nibble. It is accepted where its
check nibble is the exclusive-OR of the other nine and its kind is SAMPLE, MARK, FILL or HALT, and is then the command of
its kind with the fields of its payload; any other word is a word error. A word of 40 bits is read so, one of any other
width as no command (the model's choice, assumption 27). R4: RUN is sent as the nibbles 8, eight of 0 and 8, and STOP as 9,
eight of 0 and 9. What the head sends for a link command reads back as that command; and an accepted word in which one
nibble has been changed is a word error. -/
def Obligations.LinkWordsReadBackAndOneWrongNibbleIsCaught : Prop :=
  (∀ (w : LinkWord) (kind : BitVec 4) (payload : BitVec 32), kind = w.extractLsb' 36 4 → payload = w.extractLsb' 4 32 →
    linkWordCommand w =
      (if w.extractLsb' 0 4 ≠ (List.range 8).foldl (fun x k => x ^^^ payload.extractLsb' (4 * k) 4) kind then .wordError
      else if kind = 1 then
        .sampleWord (payload.extractLsb' 20 12) (payload.extractLsb' 6 14) (payload.extractLsb' 0 6)
      else if kind = 2 then .goodMark (payload.extractLsb' 16 16) (payload.extractLsb' 8 8)
      else if kind = 3 then .fillWord
      else if kind = 4 then .haltWord
      else .wordError)) ∧
  (∀ (w : LinkWord), decodeTableWord 40 w.toNat = some (linkWordCommand w)) ∧
  (∀ n w : Nat, n ≠ 40 → decodeTableWord n w = none) ∧
  (∀ k, k < 10 → runWord.extractLsb' (4 * (9 - k)) 4 = (if k = 0 ∨ k = 9 then 8 else 0) ∧
    stopWord.extractLsb' (4 * (9 - k)) 4 = (if k = 0 ∨ k = 9 then 9 else 0)) ∧
  (∀ (c : Instr) (w : LinkWord), encodeLinkWord c = some w → linkWordCommand w = c) ∧
  (∀ (w : LinkWord) (k : Nat) (d : BitVec 4), linkWordCommand w ≠ .wordError → k < 10 → d ≠ 0 →
    linkWordCommand (w ^^^ ((d.setWidth 40) <<< (4 * (9 - k)))) = .wordError)

/-- The writes of the register window and the commands they are stand one for one. -/
def Obligations.RegisterWritesReadBack : Prop :=
  (∀ (c : Instr) (offset : Nat) (v : Word), c.wellFormed = true → encodeRegisterWrite c = some (offset, v) →
    registerWriteCommand offset v = some c) ∧
  (∀ (c : Instr) (offset : Nat) (v : Word), registerWriteCommand offset v = some c →
    c.wellFormed = true ∧ encodeRegisterWrite c = some (offset, v))

/-! ### The scanner link (chapter 1) -/

/-- R1, R15, R20: while the intake is CLOSED every word is dropped on arrival; FILL is dropped in every state; in WAITING and
DISCARD samples and word errors are dropped (R6, R7). That the expiry of a stopped mark timer, which cannot occur, changes
nothing is the model's choice (assumptions 2 and 12). -/
def Obligations.DroppedWordsChangeNothing : Prop :=
  ∀ s : State,
    exec .fillWord s = .next s ∧
    (s.sweep.intake = .closed →
      (∀ a d q, exec (.sampleWord a d q) s = .next s) ∧ (∀ n f, exec (.goodMark n f) s = .next s) ∧
      exec .haltWord s = .next s ∧ exec .wordError s = .next s) ∧
    (s.sweep.receiver ≠ .receiving →
      (∀ a d q, exec (.sampleWord a d q) s = .next s) ∧ exec .wordError s = .next s) ∧
    (s.sweep.markTimer = false → exec .markTimerExpiry s = .next s)

/-- R6: in RECEIVING a sample is stored at the end of the current revolution's buffer, below 8192 samples. -/
def Obligations.SampleIsStored : Prop :=
  ∀ (a : BitVec 12) (d : BitVec 14) (q : BitVec 6) (s : State) (r : Revolution),
    s.sweep.intake = .opened → s.sweep.receiver = .receiving → s.sweep.current = some r →
    (s.buffer r.buffer).samples.length < 8192 →
    ∃ t, exec (.sampleWord a d q) s = .next t ∧
      t = { s with sweep := { s.sweep with bufferA := t.sweep.bufferA, bufferB := t.sweep.bufferB } } ∧
      ∀ i, t.buffer i =
        if i = r.buffer then
          { s.buffer i with samples := (s.buffer i).samples ++ [{ angle := a, range := d, strength := q }] }
        else s.buffer i

/-- R6, R7, R14, R61, R62, R72, R73: a word error in RECEIVING, or a sample past 8192, spoils the revolution: its buffer is
emptied and FREE, it is reported discarded against its tag, be that station OPEN or CLOSING, and the receiver enters DISCARD.
Where it was the last revolution in hand of a CLOSING station at the head of the evaluation order, that station becomes
EVALUATING, THIN judged; with no revolution committed to it its EMPTY record is offered and its bank is FREE (here with no
boundary held and no other station waiting behind it, whose boundary and whose evaluation would follow); where that record is
admitted the position block is to be written (R132, R172; with the values of the event's end, the model's choice, assumption
8). -/
def Obligations.SpoiledRevolutionIsDiscarded : Prop :=
  ∀ (c : Instr) (s : State) (r : Revolution) (spoiled : State → State),
    s.Rested → s.EvaluationsBegun → s.control.survey = .running → s.sweep.intake = .opened →
    s.sweep.receiver = .receiving → s.sweep.current = some r →
    (c = .wordError ∨ (8192 ≤ (s.buffer r.buffer).samples.length ∧ ∃ a d q, c = .sampleWord a d q)) →
    (∀ t, spoiled t = { s with
      sweep := { s.sweep with
        receiver := .discard, current := none, bufferA := t.sweep.bufferA, bufferB := t.sweep.bufferB }
      accumulator := { s.accumulator with bank0 := t.accumulator.bank0, bank1 := t.accumulator.bank1 } }) →
    (s.LeavesNoneEmpty r.tag →
      ∃ t, exec c s = .next t ∧ t = { spoiled t with evaluator := s.evaluatorAfterReport r.tag } ∧
        (∀ i, t.buffer i = if i = r.buffer then { phase := .free, samples := [] } else s.buffer i) ∧
        (∀ i, t.bank i = s.bankAfterReport r.tag i)) ∧
    (∀ i, s.lastInHandOf r.tag = some i → (s.bank i).committed = 0 → s.accumulator.evaluationOrder = [i] →
      (s.bank i.other).boundaryHeld = false → s.NoLoadWaits →
      ∃ t, exec c s = .next t ∧
        t.sheets.tally = s.sheets.tally.offer (bareStationRecord .empty (s.bankAfterReport r.tag i)) ∧
        (∀ j, t.buffer j = if j = r.buffer then { phase := .free, samples := [] } else s.buffer j) ∧
        t.bank i = (s.bankAfterReport r.tag i).freed ∧ t.bank i.other = s.bank i.other ∧ s.ReleasesOnce t i ∧
        State.SameButForWriting
          { spoiled t with
            accumulator := { (spoiled t).accumulator with evaluationOrder := [] }
            loader := { s.loader with setX := t.loader.setX, setY := t.loader.setY } } t (s.sheets.queue.length < 6))

/-- R3, R8, R11, R12, R43, R60, R61: a good MARK in WAITING or DISCARD. It becomes the last good MARK, restarts the mark
timer and has the inclinometer read where no read is in flight. It opens a revolution, tagged with the open station, in
buffer A if it is FREE, else in B if it is FREE; with neither FREE the revolution is lost and reported discarded. -/
def Obligations.GoodMarkOpensARevolution : Prop :=
  ∀ (n : BitVec 16) (f : BitVec 8) (s : State) (tag : Option Tag),
    s.Rested → s.EvaluationsBegun → s.control.survey = .running → s.sweep.intake = .opened → s.AnswersTag tag →
    s.sweep.receiver ≠ .receiving → (s.accumulator.commit ≠ none ∨ s.sweep.handover = []) →
    ∃ t, exec (.goodMark n f) s = .next t ∧
      t = { s with
        sweep := t.sweep
        cant := { s.cant with readInFlight := true }
        sent := if s.cant.readInFlight then s.sent else s.sent ++ [.cantRead]
        accumulator := { s.accumulator with bank0 := t.accumulator.bank0, bank1 := t.accumulator.bank1 } } ∧
      t.sweep = { s.sweep with
        lastGood := some n, markTimer := true, receiver := t.sweep.receiver, current := t.sweep.current,
        bufferA := t.sweep.bufferA, bufferB := t.sweep.bufferB } ∧
      s.RevolutionOpens t n f tag s.buffer s.buffer

/-- R9, R10, R13, R63, R64, R75: a revolution complete at its closing MARK is handed over at the tail of the handover order
with its WINDOW indication; with no commit in progress its commit starts at once, with the cant, the held indication and
the strength floor of that moment. The same MARK opens the next revolution, in the other buffer if that is FREE (R8, R11,
R12). With no commit in progress a revolution whose bank no longer holds its station is dropped at once: its buffer is
FREE, after the choice of the new revolution's (R12), and nothing is counted. While BACKED a revolution of a CLOSING
station is handed over and dropped at once: its buffer is FREE and it is counted as discarded against the station, which,
no revolution being left in hand, becomes EVALUATING (R72, R73). (That a handed buffer is judged by R63, and so dropped, only
after the new revolution has chosen its buffer, is the model's choice, assumption 10.) -/
def Obligations.CompleteRevolutionIsHandedOver : Prop :=
  ∀ (n : BitVec 16) (f : BitVec 8) (s : State) (r : Revolution) (g : Tag) (h : Handed) (tag : Option Tag)
    (closed : BufferId → RevolutionBuffer),
    s.Rested → s.EvaluationsBegun → s.control.survey = .running → s.sweep.intake = .opened → s.AnswersTag tag →
    s.sweep.receiver = .receiving → s.sweep.current = some r → r.tag = some g →
    s.calibration.nmin ≤ (s.buffer r.buffer).samples.length →
    (s.buffer r.buffer).samples.length ≤ s.calibration.nmax → n = r.opening + 1 → f.getLsbD 1 = false →
    h = { buffer := r.buffer, tag := g, window := r.window || f.getLsbD 0, opening := r.opening, closing := n } →
    (∀ j, closed j = if j = r.buffer then { s.buffer j with phase := .handed } else s.buffer j) →
    ((s.accumulator.commit ≠ none ∨ (s.sweep.handover = [] ∧ s.chainage.tracker = .tracking ∧ s.holdsTag g = true ∧
        ((s.bank g.bank).phase = .opened ∨ (s.bank g.bank).phase = .closing))) →
      ∃ t, exec (.goodMark n f) s = .next t ∧
        t = { s with
          sweep := t.sweep
          cant := { s.cant with readInFlight := true }
          sent := if s.cant.readInFlight then s.sent else s.sent ++ [.cantRead]
          accumulator := { s.accumulator with
            commit := some (s.accumulator.commit.getD (s.commitOf h))
            bank0 := t.accumulator.bank0, bank1 := t.accumulator.bank1 } } ∧
        t.sweep = { s.sweep with
          lastGood := some n, markTimer := true, handover := s.sweep.handover ++ [h]
          receiver := t.sweep.receiver, current := t.sweep.current
          bufferA := t.sweep.bufferA, bufferB := t.sweep.bufferB } ∧
        s.RevolutionOpens t n f tag closed closed) ∧
    (s.holdsTag g = false → s.accumulator.commit = none → s.sweep.handover = [] →
      ∃ t, exec (.goodMark n f) s = .next t ∧
        t = { s with
          sweep := t.sweep
          cant := { s.cant with readInFlight := true }
          sent := if s.cant.readInFlight then s.sent else s.sent ++ [.cantRead]
          accumulator := { s.accumulator with bank0 := t.accumulator.bank0, bank1 := t.accumulator.bank1 } } ∧
        t.sweep = { s.sweep with
          lastGood := some n, markTimer := true, receiver := t.sweep.receiver, current := t.sweep.current
          bufferA := t.sweep.bufferA, bufferB := t.sweep.bufferB } ∧
        s.RevolutionOpens t n f tag closed
          (fun j => if j = r.buffer then { phase := .free, samples := [] } else s.buffer j)) ∧
    (s.holdsTag g = true → s.chainage.tracker = .backed → (s.bank g.bank).phase = .closing →
      s.accumulator.evaluationOrder = [g.bank] →
      (s.bank g.bank).inHand = 1 → (s.bank g.bank).committed ≠ 0 → s.accumulator.commit = none →
      s.sweep.handover = [] →
      ∃ t, exec (.goodMark n f) s = .next t ∧
        t = { s with
          sweep := t.sweep
          cant := { s.cant with readInFlight := true }
          sent := if s.cant.readInFlight then s.sent else s.sent ++ [.cantRead]
          accumulator := { s.accumulator with bank0 := t.accumulator.bank0, bank1 := t.accumulator.bank1 }
          evaluator := s.evaluatorTaking g.bank } ∧
        t.sweep = { s.sweep with
          lastGood := some n, markTimer := true, receiver := t.sweep.receiver, current := t.sweep.current
          bufferA := t.sweep.bufferA, bufferB := t.sweep.bufferB } ∧
        (∀ j, t.buffer j =
          if j = r.buffer then { phase := .free, samples := [] }
          else if (s.buffer j).phase = .free then { phase := .receiving, samples := [] } else s.buffer j) ∧
        (∀ j, j ≠ r.buffer →
          if (s.buffer j).phase = .free then
            t.sweep.receiver = .receiving ∧
            t.sweep.current = some { opening := n, tag := none, window := f.getLsbD 0, buffer := j }
          else t.sweep.receiver = .discard ∧ t.sweep.current = none) ∧
        t.bank g.bank = s.evaluatingBank g.bank { s.bank g.bank with
          discarded := min 65535 ((s.bank g.bank).discarded + 1), inHand := 0 } ∧
        t.bank g.bank.other = s.bank g.bank.other)

/-- R9, R11, R12, R14, R61, R62, R72: a revolution tagged none, or whose sample count, number or SLOW flag fails at its closing
MARK, is discarded and reported against its station, OPEN or CLOSING, which becomes EVALUATING where it was CLOSING and that
was its last revolution in hand (here with one committed; the EMPTY outcome is as at a spoiled revolution). Its buffer is
available to the revolution that the same MARK opens. -/
def Obligations.IncompleteRevolutionIsDiscarded : Prop :=
  ∀ (n : BitVec 16) (f : BitVec 8) (s : State) (r : Revolution) (tag : Option Tag),
    s.Rested → s.EvaluationsBegun → s.control.survey = .running → s.sweep.intake = .opened → s.AnswersTag tag →
    s.sweep.receiver = .receiving → s.sweep.current = some r → s.LeavesNoneEmpty r.tag →
    (s.accumulator.commit ≠ none ∨ s.sweep.handover = []) →
    (r.tag = none ∨ (s.buffer r.buffer).samples.length < s.calibration.nmin ∨
      s.calibration.nmax < (s.buffer r.buffer).samples.length ∨ n ≠ r.opening + 1 ∨ f.getLsbD 1 = true) →
    ∃ t i, exec (.goodMark n f) s = .next t ∧
      i = (if s.sweep.bufferA.phase = .free ∨ r.buffer = .a then BufferId.a else .b) ∧
      t = { s with
        sweep := t.sweep
        cant := { s.cant with readInFlight := true }
        sent := if s.cant.readInFlight then s.sent else s.sent ++ [.cantRead]
        accumulator := { s.accumulator with bank0 := t.accumulator.bank0, bank1 := t.accumulator.bank1 }
        evaluator := s.evaluatorAfterReport r.tag } ∧
      t.sweep = { s.sweep with
        lastGood := some n, markTimer := true, bufferA := t.sweep.bufferA, bufferB := t.sweep.bufferB,
        current := some { opening := n, tag := tag, window := f.getLsbD 0, buffer := i } } ∧
      (∀ j, t.buffer j =
        if j = i then { phase := .receiving, samples := [] }
        else if j = r.buffer then { phase := .free, samples := [] } else s.buffer j) ∧
      (∀ j, t.bank j = { s.bankAfterReport r.tag j with
        inHand := (s.bankAfterReport r.tag j).inHand + if tag.map Tag.bank = some j then 1 else 0 })

/-- R16, R17, R61, R62, R72: HALT, or the expiry of the mark timer, while the link fault latch is clear: the revolution in
hand is discarded and reported against its station, OPEN or CLOSING, which becomes EVALUATING where it was CLOSING and that
was its last revolution in hand (here with one committed; the EMPTY outcome is as at a spoiled revolution); the run fault
count rises, RUN is sent, the mark timer runs, the latch is set, LINK_FAULT is raised and a LINK record is offered. -/
def Obligations.FirstLinkFaultRestartsTheHead : Prop :=
  ∀ (c : Instr) (cause : LinkCause) (s : State) (tag : Option Tag),
    s.Rested → s.EvaluationsBegun → s.control.survey = .running → s.sweep.latch = false →
    tag = s.sweep.current.bind Revolution.tag → s.LeavesNoneEmpty tag →
    ((c = .haltWord ∧ cause = .halt ∧ s.sweep.intake = .opened) ∨
      (c = .markTimerExpiry ∧ cause = .timeout ∧ s.sweep.markTimer = true)) →
    ∃ t, exec c s = .next t ∧
      t.sheets.tally = s.sheets.tally.offer
        (linkRecord cause s.sweep.lastGood (min 65535 (s.sweep.runFaults + 1)) s.chainage.chainage) ∧
      (∀ i, t.buffer i =
        if s.sweep.current.map Revolution.buffer = some i then { phase := .free, samples := [] } else s.buffer i) ∧
      (∀ i, t.bank i = s.bankAfterReport tag i) ∧
      State.SameButForWriting
        { s with
          sweep := { s.sweep with
            receiver := .waiting, current := none, runFaults := min 65535 (s.sweep.runFaults + 1), markTimer := true,
            latch := true, lastCommand := .run, bufferA := t.sweep.bufferA, bufferB := t.sweep.bufferB }
          sent := s.sent ++ [.head runWord]
          accumulator := { s.accumulator with bank0 := t.accumulator.bank0, bank1 := t.accumulator.bank1 }
          evaluator := s.evaluatorAfterReport tag
          notices := { s.notices with
            linkFault := some
              { argument := (s.sweep.lastGood.map (BitVec.setWidth 24)).getD 0xFFFFFF,
                particulars := BitVec.ofNat 32 (min 65535 (s.sweep.runFaults + 1)), more := false } } } t False

/-- R18, R173, R177: a second link fault, or the bus error of the burst in progress, puts a survey that is not FAULTED
into FAULTED. Of a write burst that ended in a bus error the bytes in memory are left open, and of nothing else. -/
def Obligations.SecondLinkFaultOrBusErrorEndsTheSurvey : Prop :=
  (∀ (c : Instr) (s : State), s.control.survey ≠ .faulted → s.sweep.latch = true →
    ((c = .haltWord ∧ s.sweep.intake = .opened) ∨ (c = .markTimerExpiry ∧ s.sweep.markTimer = true)) →
    ∃ t, exec c s = .next t ∧
      s.FaultedAfter t .link ((s.sweep.lastGood.map (BitVec.setWidth 32)).getD 0xFFFFFF)) ∧
  (∀ (s : State) (g : Grant), s.control.survey ≠ .faulted → s.port.grant = some g →
    ∃ t, exec .busError s = .next t ∧ s.FaultedAfter t .bus (BitVec.ofNat 32 g.burst.offset) ∧
      ((∃ n, g.burst.transfer = .read n) → t.memory = s.memory) ∧
      ∀ ws, g.burst.transfer = .write ws → ∀ a, a < g.address ∨ g.address + 4 * ws.length ≤ a →
        t.memory.read a = s.memory.read a)

/-! ### The cant line (chapter 3) -/

/-- R45: a good reading, less the cant zero offset, joins the newest end of the history, of which the oldest of four is
removed first; the failure count becomes 0. -/
def Obligations.GoodReadingJoinsTheHistory : Prop :=
  ∀ (v : BitVec 16) (s : State), s.cant.readInFlight = true → s.cant.history.length ≤ 4 → v.toInt.natAbs ≤ 4500 →
    exec (.cantReply v true) s = .next { s with cant :=
      { history := (if s.cant.history.length = 4 then s.cant.history.tail else s.cant.history) ++
          [v.toInt - s.calibration.cantZero],
        failures := 0, readInFlight := false } }

/-- R46, R44: a reply with status BAD or of magnitude above 4500, or the expiry of the reply timer, is a failed reading:
the history stands, the failure count rises, at most to 255, and from 15 to 16 CANT_FAULT is raised. With no read in
flight a reply and an expiry do nothing. -/
def Obligations.FailedReadingRaisesTheFailureCount : Prop :=
  ∀ (c : Instr) (s : State),
    (c = .replyTimerExpiry ∨ ∃ v good, c = .cantReply v good ∧ (good = false ∨ 4500 < v.toInt.natAbs)) →
    (s.cant.readInFlight = true →
      exec c s = .next { s with
        cant := { s.cant with failures := min 255 (s.cant.failures + 1), readInFlight := false }
        notices := { s.notices with
          cantFault := if s.cant.failures = 15 then
              (some { argument := 16, particulars := BitVec.ofNat 32 s.cant.history.length,
                      more := s.notices.cantFault.isSome } : Option NoticeLatch)
            else s.notices.cantFault } }) ∧
    (s.cant.readInFlight = false → exec c s = .next s ∧ ∀ v good, exec (.cantReply v good) s = .next s)

/-! ### The odometer and marker lines (chapter 2) -/

/-- R22 to R25: in HELD a step is lost; in COUNTING a valid step adds or subtracts the count pitch, held within 48 bits,
and an illegal step changes the line reference alone. -/
def Obligations.OdometerIsCountedOutsideSurveying : Prop :=
  ∀ (now : Levels) (s : State),
    (s.chainage.mode = .held → exec (.odometerStep now.line1 now.line2) s = .next { s with lines := now }) ∧
    (∀ reference, s.chainage.mode = .counting → s.chainage.lineReference = some reference →
      (validChange reference now →
        exec (.odometerStep now.line1 now.line2) s = .next { s with
          lines := now
          chainage := { s.chainage with
            lineReference := some now
            chainage := steppedChainage s.calibration reference now s.chainage.chainage } }) ∧
      (¬ validChange reference now →
        exec (.odometerStep now.line1 now.line2) s = .next { s with
          lines := now, chainage := { s.chainage with lineReference := some now } }))

/-- R23, R24, R30, R32, R34: in SURVEYING a step that neither leaves the open station nor falls more than the hysteresis
behind the peak moves the chainage, and the peak with it where it is more advanced; while BACKED a step short of the peak
moves the chainage alone; an illegal step sets ODO on the open station while TRACKING, and nothing while BACKED. -/
def Obligations.StepWithinTheStationMovesChainageAndPeak : Prop :=
  ∀ (now reference : Levels) (s : State),
    s.Rested → s.control.survey = .running → s.chainage.mode = .surveying →
    s.chainage.lineReference = some reference →
    (validChange reference now → s.chainage.tracker = .tracking →
      s.calibration.direction.behind s.chainage.peak
          (steppedChainage s.calibration reference now s.chainage.chainage) ≤ (s.calibration.hysteresis : Int) * 1024 →
      (∀ k, s.chainage.openStation = some k →
        s.calibration.direction.ahead (stationNumber s.calibration.stationPitch
          (steppedChainage s.calibration reference now s.chainage.chainage)) k = false) →
      exec (.odometerStep now.line1 now.line2) s = .next { s with
        lines := now
        chainage := { s.chainage with
          lineReference := some now
          chainage := steppedChainage s.calibration reference now s.chainage.chainage
          peak :=
            if s.calibration.direction.ahead (steppedChainage s.calibration reference now s.chainage.chainage)
                s.chainage.peak then
              steppedChainage s.calibration reference now s.chainage.chainage
            else s.chainage.peak } }) ∧
    (validChange reference now → s.chainage.tracker = .backed →
      0 < s.calibration.direction.behind s.chainage.peak
        (steppedChainage s.calibration reference now s.chainage.chainage) →
      exec (.odometerStep now.line1 now.line2) s = .next { s with
        lines := now
        chainage := { s.chainage with
          lineReference := some now
          chainage := steppedChainage s.calibration reference now s.chainage.chainage } }) ∧
    (now.line1 ≠ reference.line1 → now.line2 ≠ reference.line2 →
      ∃ t, exec (.odometerStep now.line1 now.line2) s = .next t ∧
        t = { s with
          lines := now
          chainage := { s.chainage with lineReference := some now }
          accumulator := { s.accumulator with bank0 := t.accumulator.bank0, bank1 := t.accumulator.bank1 } } ∧
        ∀ i, t.bank i =
          if s.chainage.tracker = .tracking ∧ s.openBank = some i then
            { s.bank i with flags := { (s.bank i).flags with odo := true } }
          else s.bank i)

/-- R31, R57 to R59, R69, R70, R72, R73, R125: a step into a station ahead of the open one is a boundary. With the other
bank FREE the OPEN bank becomes CLOSING and the station reached opens in the other bank; with a set PENDING the switch is
made first: the marks pass, PLAN_TAKEN is raised and a PLAN record with cause SWITCH offered, and the station is bound to
the new set. A station closed with no revolution in hand becomes EVALUATING at the boundary itself, THIN judged: it goes to
the Clearance Evaluator, or, with no revolution committed, its EMPTY record is offered and its bank is FREE with its plan
set reference released. (That R72 is carried out after the opening, so that the EMPTY record follows the PLAN record of a
switch at the same boundary, is the model's choice, assumption 9.) Where the EMPTY record is admitted the position block is
to be written (R132, R172; with the values of the event's end, the model's choice, assumption 8). With the other bank busy
the open station is stretched. -/
def Obligations.BoundaryClosesOrStretchesTheStation : Prop :=
  ∀ (now reference : Levels) (s : State) (i : BankId) (k x n : Int) (line : ChainageUnit) (b : Bank),
    s.Rested → s.control.survey = .running → s.chainage.mode = .surveying → s.chainage.tracker = .tracking →
    s.chainage.lineReference = some reference → validChange reference now →
    x = steppedChainage s.calibration reference now s.chainage.chainage →
    n = stationNumber s.calibration.stationPitch x →
    s.calibration.direction.behind s.chainage.peak x ≤ (s.calibration.hysteresis : Int) * 1024 →
    s.chainage.openStation = some k → s.calibration.direction.ahead n k = true → s.openBank = some i →
    line = { s.chainage with
      lineReference := some now, chainage := x
      peak := if s.calibration.direction.ahead x s.chainage.peak then x else s.chainage.peak } →
    b = { s.bank i with
      endChainage := some (x / 1024), span := max (s.bank i).span (min 255 (n - (s.bank i).first).natAbs) } →
    ((s.bank i.other).phase = .free → (s.bank i).boundaryHeld = false → (s.bank i).inHand ≠ 0 →
      s.accumulator.evaluationOrder = [] → s.pendingSet = none →
      ∃ t, exec (.odometerStep now.line1 now.line2) s = .next t ∧
        t = { s with
          lines := now
          chainage := { line with openStation := some n }
          accumulator := { s.accumulator with
            openingCounter := s.accumulator.openingCounter + 1, evaluationOrder := [i]
            bank0 := t.accumulator.bank0, bank1 := t.accumulator.bank1 }
          loader := { s.loader with setX := t.loader.setX, setY := t.loader.setY } } ∧
        t.bank i = { b with phase := .closing } ∧
        s.OpensAs (t.bank i.other) (s.accumulator.openingCounter + 1) n x ∧ s.RefersOnce t) ∧
    (∀ p, (s.bank i.other).phase = .free → (s.bank i).boundaryHeld = false → (s.bank i).inHand ≠ 0 →
      s.accumulator.evaluationOrder = [] → s.pendingSet = some p →
      ∃ t, exec (.odometerStep now.line1 now.line2) s = .next t ∧
        t.sheets.tally = s.sheets.tally.offer
          (planRecord .switch p (s.planSet p).generation (s.planSet p).offset n x) ∧
        t.bank i = { b with phase := .closing } ∧
        (s.switchedTo p).OpensAs (t.bank i.other) (s.accumulator.openingCounter + 1) n x ∧
        (s.switchedTo p).RefersOnce t ∧
        State.SameButForWriting
          { s with
            lines := now
            chainage := { line with openStation := some n }
            accumulator := { s.accumulator with
              openingCounter := s.accumulator.openingCounter + 1, evaluationOrder := [i]
              bank0 := t.accumulator.bank0, bank1 := t.accumulator.bank1 }
            loader := { s.loader with setX := t.loader.setX, setY := t.loader.setY }
            notices := { s.notices with
              planTaken := some ({ argument := BitVec.ofNat 24 (s.planSet p).generation,
                                   particulars := BitVec.ofNat 32 (s.planSet p).offset,
                                   more := s.notices.planTaken.isSome }) } } t False) ∧
    ((s.bank i.other).phase = .free → (s.bank i).boundaryHeld = false → (s.bank i).inHand = 0 →
      (s.bank i).committed ≠ 0 → s.accumulator.evaluationOrder = [] →
      ∃ t, exec (.odometerStep now.line1 now.line2) s = .next t ∧
        t.sheets.tally = s.switchTally s.sheets.tally n x ∧
        (s.pendingSet = none → t.sheets = s.sheets ∧ t.port = s.port ∧ t.notices = s.notices) ∧
        t.bank i = s.evaluatingBank i b ∧
        s.afterSwitch.OpensAs (t.bank i.other) (s.accumulator.openingCounter + 1) n x ∧ s.afterSwitch.RefersOnce t ∧
        State.SameButForWriting
          { s with
            lines := now
            chainage := { line with openStation := some n }
            accumulator := { s.accumulator with
              openingCounter := s.accumulator.openingCounter + 1, evaluationOrder := [i]
              bank0 := t.accumulator.bank0, bank1 := t.accumulator.bank1 }
            evaluator := s.evaluatorTaking i
            loader := { s.loader with setX := t.loader.setX, setY := t.loader.setY }
            notices := { s.notices with planTaken := s.switchNotice } } t False) ∧
    ((s.bank i.other).phase = .free → (s.bank i).boundaryHeld = false → (s.bank i).inHand = 0 →
      (s.bank i).committed = 0 → s.accumulator.evaluationOrder = [] → s.NoLoadWaits →
      ∃ t, exec (.odometerStep now.line1 now.line2) s = .next t ∧
        t.sheets.tally = (s.switchTally s.sheets.tally n x).offer (bareStationRecord .empty (s.evaluatingBank i b)) ∧
        t.bank i = (s.evaluatingBank i b).freed ∧
        s.afterSwitch.OpensAs (t.bank i.other) (s.accumulator.openingCounter + 1) n x ∧
        s.afterSwitch.RefersAndReleases t i ∧
        State.SameButForWriting
          { s with
            lines := now
            chainage := { line with openStation := some n }
            accumulator := { s.accumulator with
              openingCounter := s.accumulator.openingCounter + 1
              bank0 := t.accumulator.bank0, bank1 := t.accumulator.bank1 }
            loader := { s.loader with setX := t.loader.setX, setY := t.loader.setY }
            notices := { s.notices with planTaken := s.switchNotice } }
              t ((s.switchTally s.sheets.tally n x).queue.length < 6)) ∧
    ((s.bank i.other).phase ≠ .free →
      ∃ t, exec (.odometerStep now.line1 now.line2) s = .next t ∧
        t = { s with
          lines := now
          chainage := line
          accumulator := { s.accumulator with bank0 := t.accumulator.bank0, bank1 := t.accumulator.bank1 } } ∧
        t.bank i = { s.bank i with
          boundaryHeld := true
          span := max (s.bank i).span (min 255 (n - (s.bank i).first).natAbs)
          flags := { (s.bank i).flags with stretched := true } } ∧
        t.bank i.other = s.bank i.other)

/-- R32, R33, R63, R72, R74, R75: a step that leaves the chainage more than the hysteresis behind the peak is a reversal:
BACKED, the open station abandoned with its ABANDONED record, the REVERSAL record after it, the REVERSAL notice, no open
station and an empty marker latch; the peak is kept. A commit in progress is cut, some number `m` of its samples folded
(R75 leaves open how many; a free value, assumption 3), and every handed buffer is dropped: FREE, and counted as discarded
against a CLOSING station it was of. A CLOSING station left with no revolution in hand becomes EVALUATING. (Here where that
station has a revolution committed; the EMPTY outcome is as at a boundary.) Where the ABANDONED record is admitted the
position block is to be written (R132, R172; with the values of the event's end, BACKED and with no open station: the
model's choice, assumption 8). -/
def Obligations.ReversalAbandonsTheOpenStation : Prop :=
  ∀ (now reference : Levels) (s : State) (i o : BankId) (k x : Int),
    s.Rested → s.NoLoadWaits → s.control.survey = .running → s.chainage.mode = .surveying →
    s.chainage.tracker = .tracking → s.chainage.lineReference = some reference → validChange reference now →
    x = steppedChainage s.calibration reference now s.chainage.chainage →
    (s.calibration.hysteresis : Int) * 1024 < s.calibration.direction.behind s.chainage.peak x →
    s.chainage.openStation = some k → s.openBank = some i → o = i.other →
    (s.accumulator.evaluationOrder = [] ∨ s.accumulator.evaluationOrder = [o]) → s.sweep.handover.length ≤ 2 →
    ((s.bank o).phase = .closing → (s.bank o).committed = 0 → s.handedTo o < (s.bank o).inHand) →
    ∃ t m, exec (.odometerStep now.line1 now.line2) s = .next t ∧
      (∀ c, s.accumulator.commit = some c → m ≤ (s.buffer c.buffer).samples.length) ∧
      t.sheets.tally = (s.sheets.tally.offer
          (bareStationRecord .abandoned { s.bank i with endChainage := some (x / 1024) })).offer
        (reversalRecord k x s.chainage.peak) ∧
      (∀ j, t.buffer j =
        if j ∈ s.sweep.handover.map Handed.buffer then { phase := .free, samples := [] } else s.buffer j) ∧
      t.bank i = Bank.freed { s.bankAfterDrops m i with endChainage := some (x / 1024) } ∧ s.ReleasesOnce t i ∧
      (if s.accumulator.evaluationOrder = [o] ∧ (s.bank o).phase = .closing ∧ (s.bank o).inHand ≤ s.handedTo o then
        t.bank o = s.evaluatingBank o (s.bankAfterDrops m o) ∧ t.evaluator = s.evaluatorTaking o
      else t.bank o = s.bankAfterDrops m o ∧ t.evaluator = s.evaluator) ∧
      State.SameButForWriting
        { s with
          lines := now
          sweep := { s.sweep with handover := [], bufferA := t.sweep.bufferA, bufferB := t.sweep.bufferB }
          chainage := { s.chainage with
            lineReference := some now, chainage := x, tracker := .backed, openStation := none, marker := none }
          accumulator := { s.accumulator with
            commit := none, bank0 := t.accumulator.bank0, bank1 := t.accumulator.bank1 }
          evaluator := t.evaluator
          loader := { s.loader with setX := t.loader.setX, setY := t.loader.setY }
          notices := { s.notices with
            reversal := some ({ argument := BitVec.ofInt 24 k, particulars := carriedChainage x,
                                more := s.notices.reversal.isSome }) }
          freeIndex := if s.accumulator.commit = none then s.freeIndex else s.freeIndex + 1 }
            t (s.sheets.queue.length < 6)

/-- R35, R57, R59, R76, R125: a step that regains the peak while BACKED resumes: TRACKING, the peak at the chainage, the
station of the chainage opened in bank 0 if it is FREE and otherwise in bank 1, and a RESUME record offered. With a set
PENDING the switch is made first: the marks pass, PLAN_TAKEN is raised, a PLAN record is offered before the RESUME record,
and the station is bound to the new set. With none PENDING no notice is raised. -/
def Obligations.RegainingThePeakResumes : Prop :=
  ∀ (now reference : Levels) (s : State) (i : BankId) (x n : Int),
    s.Rested → s.EvaluationsBegun → s.control.survey = .running → s.chainage.mode = .surveying →
    s.chainage.tracker = .backed → s.chainage.lineReference = some reference → validChange reference now →
    x = steppedChainage s.calibration reference now s.chainage.chainage →
    n = stationNumber s.calibration.stationPitch x →
    s.calibration.direction.behind s.chainage.peak x ≤ 0 →
    i = (if s.accumulator.bank0.phase = .free then BankId.bank0 else .bank1) → (s.bank i).phase = .free →
    (s.accumulator.commit ≠ none ∨ s.sweep.handover = []) →
    ∃ t, exec (.odometerStep now.line1 now.line2) s = .next t ∧
      t.sheets.tally = (s.switchTally s.sheets.tally n x).offer (resumeRecord n x) ∧
      s.afterSwitch.OpensAs (t.bank i) (s.accumulator.openingCounter + 1) n x ∧ t.bank i.other = s.bank i.other ∧
      s.afterSwitch.RefersOnce t ∧
      State.SameButForWriting
        { s with
          lines := now
          chainage := { s.chainage with
            lineReference := some now, chainage := x, peak := x, tracker := .tracking, openStation := some n }
          accumulator := { s.accumulator with
            openingCounter := s.accumulator.openingCounter + 1
            bank0 := t.accumulator.bank0, bank1 := t.accumulator.bank1 }
          loader := { s.loader with setX := t.loader.setX, setY := t.loader.setY }
          notices := { s.notices with planTaken := s.switchNotice } } t False

/-- R36: a non-zero identifier is latched with the chainage of its arrival in SURVEYING and TRACKING; a further one sets
CROWDED; an identifier of 0, and any outside SURVEYING and TRACKING, is ignored. -/
def Obligations.MarkerArrivalIsLatched : Prop :=
  ∀ (ident : BitVec 16) (s : State),
    (ident ≠ 0 → s.chainage.mode = .surveying → s.chainage.tracker = .tracking → s.chainage.marker = none →
      exec (.markerArrival ident) s = .next { s with chainage := { s.chainage with
        marker := some { ident := ident, chainage := s.chainage.chainage, crowded := false } } }) ∧
    (∀ m, ident ≠ 0 → s.chainage.mode = .surveying → s.chainage.tracker = .tracking → s.chainage.marker = some m →
      exec (.markerArrival ident) s = .next { s with chainage := { s.chainage with
        marker := some { ident := m.ident, chainage := m.chainage, crowded := true } } }) ∧
    ((ident = 0 ∨ s.chainage.mode ≠ .surveying ∨ s.chainage.tracker ≠ .tracking) →
      exec (.markerArrival ident) s = .next s)

/-- R37 to R41: the latched marker is looked up in the ACTIVE set's table. Within the snap window the chainage and the peak
are shifted alike and the open station takes SNAPPED; outside it MARKER_MISMATCH is raised; an unknown one moves nothing.
Each offers its MARKER record, and the latch is empty after. A shift that reaches a station ahead of the open one is a
boundary (R39): with the other bank FREE the open station closes, SNAPPED, to wait for its revolutions, be evaluated at
once or end EMPTY, and the station reached opens without SNAPPED, any plan switch first; with the other bank busy the open
station is stretched. That what the boundary offers stands before the MARKER record is the model's choice (assumption 15),
and so is the EMPTY record after the PLAN record (assumption 9). Where the EMPTY record is admitted the position block is
to be written (R132, R172; with the values of the event's end, the model's choice, assumption 8). The test and the notice
take the measured chainage whole, not held to 32 bits, which R38 leaves open (the model's reading, assumption 20). -/
def Obligations.MarkerTakingSnapsOrReports : Prop :=
  ∀ (s : State) (m : MarkerLatch),
    s.Rested → s.control.survey = .running → s.chainage.mode = .surveying → s.chainage.tracker = .tracking →
    s.chainage.marker = some m →
    (s.activeTables.markers.find? (fun x => x.ident == m.ident.toNat) = none →
      ∃ t, exec .markerTaking s = .next t ∧
        t.sheets.tally = s.sheets.tally.offer (markerRecord m.ident (m.chainage / 1024) none false m.crowded) ∧
        State.SameButForWriting { s with chainage := { s.chainage with marker := none } } t False) ∧
    (∀ x, s.activeTables.markers.find? (fun x => x.ident == m.ident.toNat) = some x →
      s.activeTables.snapWindow < (x.chainage - m.chainage / 1024).natAbs →
      ∃ t, exec .markerTaking s = .next t ∧
        t.sheets.tally = s.sheets.tally.offer
          (markerRecord m.ident (m.chainage / 1024) (some x.chainage) false m.crowded) ∧
        State.SameButForWriting
          { s with
            chainage := { s.chainage with marker := none }
            notices := { s.notices with
              markerMismatch := some ({
                argument := m.ident.setWidth 24,
                particulars := BitVec.ofInt 32 (max (-32767) (min 32767 (x.chainage - m.chainage / 1024))),
                more := s.notices.markerMismatch.isSome }) } } t False) ∧
    (∀ x, s.activeTables.markers.find? (fun x => x.ident == m.ident.toNat) = some x →
      (x.chainage - m.chainage / 1024).natAbs ≤ s.activeTables.snapWindow →
      (∀ k, s.chainage.openStation = some k →
        s.calibration.direction.ahead (stationNumber s.calibration.stationPitch
          (holdChainage (s.chainage.chainage + (x.chainage * 1024 - m.chainage)))) k = false) →
      ∃ t, exec .markerTaking s = .next t ∧
        t.sheets.tally = s.sheets.tally.offer
          (markerRecord m.ident (m.chainage / 1024) (some x.chainage) true m.crowded) ∧
        (∀ i, t.bank i =
          if s.openBank = some i then { s.bank i with flags := { (s.bank i).flags with snapped := true } }
          else s.bank i) ∧
        State.SameButForWriting
          { s with
            chainage := { s.chainage with
              marker := none
              chainage := holdChainage (s.chainage.chainage + (x.chainage * 1024 - m.chainage))
              peak := holdChainage (s.chainage.peak + (x.chainage * 1024 - m.chainage)) }
            accumulator := { s.accumulator with bank0 := t.accumulator.bank0, bank1 := t.accumulator.bank1 } } t False) ∧
    (∀ (x : Marker) (i : BankId) (k X n : Int) (line : ChainageUnit) (b : Bank) (r : Record),
      s.activeTables.markers.find? (fun x => x.ident == m.ident.toNat) = some x →
      (x.chainage - m.chainage / 1024).natAbs ≤ s.activeTables.snapWindow →
      X = holdChainage (s.chainage.chainage + (x.chainage * 1024 - m.chainage)) →
      n = stationNumber s.calibration.stationPitch X → s.chainage.openStation = some k →
      s.calibration.direction.ahead n k = true → s.openBank = some i →
      line = { s.chainage with
        marker := none, chainage := X
        peak := holdChainage (s.chainage.peak + (x.chainage * 1024 - m.chainage)) } →
      b = { s.bank i with
        endChainage := some (X / 1024), span := max (s.bank i).span (min 255 (n - (s.bank i).first).natAbs)
        flags := { (s.bank i).flags with snapped := true } } →
      r = markerRecord m.ident (m.chainage / 1024) (some x.chainage) true m.crowded →
      ((s.bank i.other).phase = .free → (s.bank i).boundaryHeld = false → s.accumulator.evaluationOrder = [] →
        ((s.bank i).inHand = 0 → (s.bank i).committed ≠ 0) →
        ∃ t, exec .markerTaking s = .next t ∧
          t.sheets.tally = (s.switchTally s.sheets.tally n X).offer r ∧
          (if (s.bank i).inHand = 0 then t.bank i = s.evaluatingBank i b ∧ t.evaluator = s.evaluatorTaking i
           else t.bank i = { b with phase := .closing } ∧ t.evaluator = s.evaluator) ∧
          s.afterSwitch.OpensAs (t.bank i.other) (s.accumulator.openingCounter + 1) n X ∧ s.afterSwitch.RefersOnce t ∧
          State.SameButForWriting
            { s with
              chainage := { line with openStation := some n }
              accumulator := { s.accumulator with
                openingCounter := s.accumulator.openingCounter + 1, evaluationOrder := [i]
                bank0 := t.accumulator.bank0, bank1 := t.accumulator.bank1 }
              evaluator := t.evaluator
              loader := { s.loader with setX := t.loader.setX, setY := t.loader.setY }
              notices := { s.notices with planTaken := s.switchNotice } } t False) ∧
      ((s.bank i.other).phase = .free → (s.bank i).boundaryHeld = false → s.accumulator.evaluationOrder = [] →
        (s.bank i).inHand = 0 → (s.bank i).committed = 0 → s.NoLoadWaits →
        ∃ t, exec .markerTaking s = .next t ∧
          t.sheets.tally = ((s.switchTally s.sheets.tally n X).offer
            (bareStationRecord .empty (s.evaluatingBank i b))).offer r ∧
          t.bank i = (s.evaluatingBank i b).freed ∧
          s.afterSwitch.OpensAs (t.bank i.other) (s.accumulator.openingCounter + 1) n X ∧
          s.afterSwitch.RefersAndReleases t i ∧
          State.SameButForWriting
            { s with
              chainage := { line with openStation := some n }
              accumulator := { s.accumulator with
                openingCounter := s.accumulator.openingCounter + 1
                bank0 := t.accumulator.bank0, bank1 := t.accumulator.bank1 }
              loader := { s.loader with setX := t.loader.setX, setY := t.loader.setY }
              notices := { s.notices with planTaken := s.switchNotice } }
                t ((s.switchTally s.sheets.tally n X).queue.length < 6)) ∧
      ((s.bank i.other).phase ≠ .free →
        ∃ t, exec .markerTaking s = .next t ∧ t.sheets.tally = s.sheets.tally.offer r ∧
          t.bank i = { b with
            endChainage := (s.bank i).endChainage, boundaryHeld := true, flags := { b.flags with stretched := true } } ∧
          t.bank i.other = s.bank i.other ∧
          State.SameButForWriting
            { s with
              chainage := line
              accumulator := { s.accumulator with
                bank0 := t.accumulator.bank0, bank1 := t.accumulator.bank1 } } t False))

/-! ### Commits and the two assessments (chapters 4 to 6) -/

/-- R64 to R67, R63, R72, R73, R79, R96: at the end of a commit its samples are folded into the target bank in the order
stored, the bank's revolutions committed and its flags are brought up to date, and the buffer is FREE; the commit of the next
handed buffer starts at once, one whose bank no longer holds its station being dropped before it, its buffer FREE and nothing
counted. An OPEN station goes on; a CLOSING one at the head of the evaluation order whose last
revolution this was becomes EVALUATING, THIN judged, and goes to the Clearance Evaluator with the parameters it is bound to.
In STOPPING as in RUNNING. (That every sample is folded at the end of the commit, into the cells as they stood before it, is
the model's choice, assumption 6: R64 folds them one by one while the commit runs.) -/
def Obligations.CommitEndFoldsTheRevolution : Prop :=
  ∀ (s : State) (k : Commit) (h : Handed) (gone rest : List Handed) (b : Bank),
    s.Rested → s.EvaluationsBegun → (s.control.survey = .running ∨ s.control.survey = .stopping) →
    s.accumulator.commit = some k → s.sweep.handover = h :: (gone ++ rest) → h.buffer = k.buffer → s.holdsTag k.tag = true →
    gone.length ≤ 1 → (∀ x ∈ gone, s.holdsTag x.tag = false) →
    (rest = [] ∨ ∃ next, rest = [next] ∧ s.chainage.tracker = .tracking ∧ s.holdsTag next.tag = true ∧
      ((s.bank next.tag.bank).phase = .opened ∨ (s.bank next.tag.bank).phase = .closing)) →
    b = { (s.bank k.tag.bank).foldSamples s.calibration k.floor k.cantOffset (s.buffer k.buffer).samples with
      committed := min 65535 ((s.bank k.tag.bank).committed + 1)
      inHand := (s.bank k.tag.bank).inHand - 1
      flags := { (s.bank k.tag.bank).flags with
        window := (s.bank k.tag.bank).flags.window || k.window
        cantHeld := (s.bank k.tag.bank).flags.cantHeld || k.cantHeld } } →
    ∃ t, exec .commitEnd s = .next t ∧
      t = { s with
        sweep := { s.sweep with handover := rest, bufferA := t.sweep.bufferA, bufferB := t.sweep.bufferB }
        accumulator := { s.accumulator with
          commit := rest.head?.map s.commitOf, bank0 := t.accumulator.bank0, bank1 := t.accumulator.bank1 }
        evaluator := t.evaluator } ∧
      (∀ j, t.buffer j =
        if j = k.buffer ∨ j ∈ gone.map Handed.buffer then { phase := .free, samples := [] } else s.buffer j) ∧
      t.bank k.tag.bank.other = s.bank k.tag.bank.other ∧
      (if (s.bank k.tag.bank).phase = .closing ∧ (s.bank k.tag.bank).inHand = 1 ∧
          s.accumulator.evaluationOrder.head? = some k.tag.bank then
        t.bank k.tag.bank = s.evaluatingBank k.tag.bank b ∧ t.evaluator = s.evaluatorTaking k.tag.bank
      else t.bank k.tag.bank = b ∧ t.evaluator = s.evaluator)

/-- R83, R92 to R94, R96, R99 to R102: at the end of the clearance pass every sector has been assessed in order, POOR_COVER is
judged, and the bank goes to the Baseline Comparator, which compares at once where no baseline is used or the table holds
no record of the station (NO_BASELINE), and otherwise asks for the nine bursts of the record. In STOPPING as in RUNNING.
(That the pass is made whole at its end, the running summary standing at its start until then, is the model's choice,
assumption 6; what the Clearance Evaluator holds in IDLE is assumption 25.) -/
def Obligations.EvaluationPassEndHandsTheBankOn : Prop :=
  ∀ (s : State) (i : BankId) (results : List RailResult) (summary : ClearanceSummary) (index : Int)
    (use outside : Bool) (burst : Nat → Burst),
    s.Rested → (s.control.survey = .running ∨ s.control.survey = .stopping) → s.DrainGoesOn →
    s.evaluator.phase = .assessing → s.evaluator.bank = some i → s.evaluator.summary = .start →
    results = (List.finRange 256).map (fun sector =>
      assessSector (s.calibration.mask.getLsbD sector.val)
        ((s.boundTables i).templateRadius s.evaluator.template sector)
        ((s.bank i).rail.get sector) s.evaluator.tolerance s.evaluator.warn) →
    summary = ClearanceSummary.start.over 0 results →
    index = (s.bank i).first - (s.boundTables i).baseline.first →
    use = (s.boundParameters i).baselineUse →
    outside = decide (index < 0 ∨ ((s.boundTables i).baseline.count : Int) ≤ index) →
    (∀ k, burst k = { offset := (s.boundTables i).baseline.offset + index.toNat * 520 + 64 * k,
                      transfer := .read (min 16 (130 - 16 * k)), purpose := .baseline }) →
    ∃ t, exec .evaluationPassEnd s = .next t ∧
      t = { s with
        evaluator := { s.evaluator with
          phase := .idle, bank := none, nextSector := 256, results := [], summary := .start }
        comparator :=
          { phase := if use && !outside then .reading else .comparing, bank := some i,
            rail := some { results := results, template := s.evaluator.template, summary := summary },
            baselineUse := use, deformLimit := (s.boundParameters i).deformLimit,
            meanFloor := (s.boundTables i).km, mode := (s.boundParameters i).mode,
            descriptor := (s.boundTables i).baseline,
            condition := if use then (if outside then some .outside else none) else some .notUsed,
            record := [], nextSector := 0, results := [], deformCount := 0, maxDeviation := none }
        accumulator := { s.accumulator with bank0 := t.accumulator.bank0, bank1 := t.accumulator.bank1 }
        port := t.port } ∧
      t.bank i = { s.bank i with flags := { (s.bank i).flags with
        poorCover := (s.bank i).flags.poorCover || decide (s.evaluator.blindLimit < summary.blind)
        noBaseline := (s.bank i).flags.noBaseline || (use && outside) } } ∧
      t.bank i.other = s.bank i.other ∧
      t.port =
        if use && !outside then
          match s.port.grant with
          | some _ => { s.port with
              comparatorQueue := s.port.comparatorQueue ++ (List.range 9).map burst }
          | none => { s.port with
              comparatorQueue := (List.range 8).map (fun k => burst (k + 1))
              grant := some
                { requester := .comparator, burst := burst 0, base := s.control.area, abandoned := false } }
        else s.port

/-- R104 to R109: at the end of the comparison the STATION record is built and offered, and where it is admitted the
position block is to be written (R132, R172; with the values of the event's end, the model's choice, assumption 8); an
alert is offered where the encroach count or the deform count is greater than 0, the bank becomes FREE with its plan set
reference released, and the Baseline Comparator is IDLE. The freeing brings what follows it: a boundary held is taken with
the station of the chainage now, any plan switch first and its PLAN record after the STATION record (R59, R125), or set
aside where that is not ahead (R71); a CLOSING bank next in the order with no revolution in hand becomes EVALUATING (R72;
but in STOPPING no bank waits behind another); a load waiting for the set begins when its count falls to 0 (R121, R114);
and a DRAINING stop with nothing left offers END, which is admitted or waits for room (R77, R134, R169). -/
def Obligations.ComparisonPassEndReleasesTheStation : Prop :=
  ∀ (s : State) (i o : BankId) (h : RailHandover) (levels : List LevelResult) (d : Nat × Option Int) (y : Tally)
    (rest : List BankId) (n : Int),
    s.Rested → s.comparator.phase = .comparing → s.comparator.bank = some i → s.comparator.rail = some h →
    s.accumulator.evaluationOrder = i :: rest → o = i.other →
    levels = (List.finRange 256).map (fun sector =>
      if s.comparator.condition = some .present then
        judgeLevel s.comparator.meanFloor s.comparator.deformLimit ((s.bank i).level.get sector)
          (halfAt s.comparator.record 2 sector.val)
      else { status := .noBase, deviation := none }) →
    d = deformSummary 0 none levels →
    y = s.sheets.tally.offer
      (stationRecord .evaluated (s.bank i) h.template h.summary d.1 d.2
        (chooseEntries s.comparator.mode 0 h.results levels)) →
    n = stationNumber s.calibration.stationPitch s.chainage.chainage →
    ((s.control.survey = .running ∨
        (s.control.survey = .stopping ∧ (s.sweep.handover ≠ [] ∨ (s.bank o).phase ≠ .free))) →
      (rest = [] ∨ (rest = [o] ∧ (s.bank o).phase = .closing ∧ (s.bank o).inHand ≠ 0)) →
      (s.bank o).boundaryHeld = false → s.NoLoadWaits →
      ∃ t, exec .comparisonPassEnd s = .next t ∧ s.ReleasesStation t i h d ∧ t.sheets.tally = y ∧
        t.bank i = (s.bank i).freed ∧ t.bank o = s.bank o ∧ s.ReleasesOnce t i ∧
        State.SameButForWriting (s.withRelease t rest) t (s.sheets.queue.length < 6)) ∧
    (s.control.survey = .running → rest = [] → s.openBank = some o → (s.bank o).boundaryHeld = true →
      s.NoLoadWaits →
      (s.calibration.direction.ahead n (s.bank o).first = false →
        ∃ t, exec .comparisonPassEnd s = .next t ∧ s.ReleasesStation t i h d ∧ t.sheets.tally = y ∧
          t.bank i = (s.bank i).freed ∧ t.bank o = { s.bank o with boundaryHeld := false } ∧ s.ReleasesOnce t i ∧
          State.SameButForWriting (s.withRelease t []) t (s.sheets.queue.length < 6)) ∧
      (s.calibration.direction.ahead n (s.bank o).first = true → (s.bank o).inHand ≠ 0 →
        ∃ t, exec .comparisonPassEnd s = .next t ∧ s.ReleasesStation t i h d ∧
          t.sheets.tally = s.switchTally y n s.chainage.chainage ∧
          t.bank o = { s.bank o with
            phase := .closing, endChainage := some (s.chainage.chainage / 1024), boundaryHeld := false
            span := max (s.bank o).span (min 255 (n - (s.bank o).first).natAbs) } ∧
          s.afterSwitch.OpensAs (t.bank i) (s.accumulator.openingCounter + 1) n s.chainage.chainage ∧
          (∀ j, t.planSet j = { s.afterSwitch.planSet j with
            references := (s.planSet j).references -
              (if (s.bank i).planReference.map PlanReference.set = some j then 1 else 0) +
              (if s.afterSwitch.activeSet = some j then 1 else 0) }) ∧
          State.SameButForWriting
            { s.withRelease t [o] with
              chainage := { s.chainage with openStation := some n }
              accumulator := { (s.withRelease t [o]).accumulator with
                openingCounter := s.accumulator.openingCounter + 1 }
              notices := { (s.withRelease t [o]).notices with planTaken := s.switchNotice } }
                t (s.sheets.queue.length < 6))) ∧
    (rest = [o] → (s.bank o).phase = .closing → (s.bank o).inHand = 0 → (s.bank o).committed ≠ 0 →
      (s.bank o).boundaryHeld = false → s.NoLoadWaits →
      (s.control.survey = .running ∨ s.control.survey = .stopping) →
      ∃ t, exec .comparisonPassEnd s = .next t ∧ s.ReleasesStation t i h d ∧ t.sheets.tally = y ∧
        t.bank i = (s.bank i).freed ∧ t.bank o = s.evaluatingBank o (s.bank o) ∧ s.ReleasesOnce t i ∧
        State.SameButForWriting { s.withRelease t [o] with evaluator := s.evaluatorTaking o }
          t (s.sheets.queue.length < 6)) ∧
    (∀ j q, s.control.survey = .running → rest = [] → (s.bank o).boundaryHeld = false →
      s.loader.load = .waiting j q → (s.planSet j).references = 1 →
      (s.bank i).planReference.map PlanReference.set = some j →
      ∃ t, exec .comparisonPassEnd s = .next t ∧ s.ReleasesStation t i h d ∧ t.sheets.tally = y ∧
        t.bank i = (s.bank i).freed ∧ t.bank o = s.bank o ∧
        (∀ l, t.planSet l =
          if l = j then { s.planSet l with status := .invalid, mark := .unmarked, references := 0 }
          else s.planSet l) ∧
        (if q % 4 ≠ 0 ∨ (s.control.geometry.map Geometry.areaSize).getD 0 < q + 88 then
          t.loader = { (s.withRelease t []).loader with load := .idle, calibrationWords := [] } ∧
          t.notices.setupFault = some ({ argument := 3, particulars := BitVec.ofNat 32 q,
                                         more := s.notices.setupFault.isSome })
        else
          t.loader = { (s.withRelease t []).loader with load := .copying j q .header [] } ∧
          t.port.asks .loader { offset := q, transfer := .read 16, purpose := .planHeader } ∧
          t.notices.setupFault = s.notices.setupFault) ∧
        State.SameButForWriting
          { s.withRelease t [] with
            loader := t.loader
            notices := { (s.withRelease t []).notices with setupFault := t.notices.setupFault }
            port := { s.port with loaderQueue := t.port.loaderQueue } } t (s.sheets.queue.length < 6)) ∧
    (s.control.survey = .stopping → s.control.stopPhase = .draining → rest = [] → (s.bank o).phase = .free →
      s.sweep.handover = [] → s.NoLoadWaits →
      ∃ t, exec .comparisonPassEnd s = .next t ∧ s.ReleasesStation t i h d ∧
        t.sheets.tally = y.offerEnd .finish 0 s.chainage.chainage ∧
        t.sheets.endWaiting = (s.sheets.endWaiting || decide (8 ≤ y.queue.length)) ∧
        t.bank i = (s.bank i).freed ∧ t.bank o = s.bank o ∧ s.ReleasesOnce t i ∧
        State.SameButForWriting
          { s.withRelease t [] with control := { s.control with stopPhase := .ending } } t (s.sheets.queue.length < 6))

/-! ### The Memory Port (chapter 10) and what its bursts bring -/

/-- R175, R178: the completion of a write burst leaves its words in the survey memory from AREA plus the burst's offset
on, each little-endian, and every other byte as it was; the completion of a read burst changes no byte. (AREA is the base
kept with the grant, as it stood when the burst was granted: the model's reading, assumption 18.) -/
def Obligations.CompletedWriteIsLittleEndian : Prop :=
  ∀ (data : Vector Word 16) (s : State) (g : Grant), s.port.grant = some g →
    ∃ t, exec (.burstComplete data) s = .next t ∧
      (∀ n, g.burst.transfer = .read n → t.memory = s.memory) ∧
      (∀ ws, g.burst.transfer = .write ws → ∀ a, t.memory.read a =
        if g.base.toNat + g.burst.offset ≤ a ∧ a < g.base.toNat + g.burst.offset + 4 * ws.length then
          some ((ws.getD ((a - (g.base.toNat + g.burst.offset)) / 4) 0).extractLsb'
            (8 * ((a - (g.base.toNat + g.burst.offset)) % 4)) 8)
        else s.memory.read a)

/-- R165, R113, R166, R126, R117, R172: the area header is refused with the code and the offset of the first check it
fails, and the survey returns to IDLE (that sheets reaching beyond the area size give BAD_SPAN with the offset 20 of the
sheet base offset is the model's reading, assumption 19); accepted, its fields are the area geometry, and the calibration
block is refused at its place (BAD_SPAN) or its 88 bytes are read in two bursts (the second asked for when the first has
arrived: the model's choice, assumption 28). Read whole, the block is refused (BAD_RANGE) at the lowest field outside its
range, or becomes the calibration in force; then both plan sets are INVALID, and the plan of START is refused at its place
or its header asked for, in set X. After each refusal but the header's the position block is to be written. -/
def Obligations.AreaHeaderAndCalibrationAreJudged : Prop :=
  ∀ (data : Vector Word 16) (s : State) (g : Grant) (n q : Nat) (ws block : List Word) (geo : Geometry),
    s.Rested → s.control.survey = .starting → s.port.grant = some g → g.abandoned = false →
    g.burst.transfer = .read n → ws = data.toList.take n → block = s.loader.calibrationWords ++ ws →
    (∀ (fault : Option (Nat × Nat)) (accepted : State),
      g.burst.purpose = .areaHeader → n = 6 →
      fault = (
        if wordAt ws 0 ≠ 0x4E36A001 then some (1, 0)
        else if natAt ws 3 < 2 ∨ 16 < natAt ws 3 then some (2, 12)
        else if natAt ws 1 % 4 ≠ 0 ∨ natAt ws 1 < 168 ∨ 4294967296 < s.control.area.toNat + natAt ws 1 then some (3, 4)
        else if natAt ws 2 % 4 ≠ 0 then some (3, 8)
        else if natAt ws 5 % 4 ≠ 0 ∨ natAt ws 5 < 168 ∨ natAt ws 1 < natAt ws 5 + natAt ws 3 * natAt ws 4 then
          some (3, 20)
        else if natAt ws 4 < 4096 ∨ 65536 < natAt ws 4 ∨ natAt ws 4 % 4096 ≠ 0 then some (6, 16)
        else none) →
      accepted = { s with control := { s.control with
        startPhase := .calibration
        geometry := some { areaSize := natAt ws 1, calibrationOffset := natAt ws 2, sheetCount := natAt ws 3,
                           sheetSize := natAt ws 4, sheetBase := natAt ws 5 } } } →
      (∀ code offset, fault = some (code, offset) → s.control.geometry = none →
        ∃ t, exec (.burstComplete data) s = .next t ∧ s.StartRefused t code offset) ∧
      (fault = none → natAt ws 1 < natAt ws 2 + 88 →
        ∃ t, exec (.burstComplete data) s = .next t ∧ t.port.asks .control t.positionBurst ∧
          State.StartRefused
            { accepted with loader := { s.loader with load := .idle, calibrationWords := [] } } t 3 (natAt ws 2)) ∧
      (fault = none → natAt ws 2 + 88 ≤ natAt ws 1 →
        ∃ t, exec (.burstComplete data) s = .next t ∧
          t = { accepted with loader := { s.loader with calibrationWords := [] }, port := t.port } ∧
          t.port.asks .loader { offset := natAt ws 2, transfer := .read 16, purpose := .calibration })) ∧
    (g.burst.purpose = .calibration → s.control.geometry = some geo → q = geo.calibrationOffset →
      (block.length < 22 →
        ∃ t, exec (.burstComplete data) s = .next t ∧
          t = { s with loader := { s.loader with calibrationWords := block }, port := t.port } ∧
          t.port.asks .loader { offset := q + 4 * block.length, transfer := .read (min 16 (22 - block.length)),
                                purpose := .calibration }) ∧
      (∀ offset, 22 ≤ block.length → ¬ calibrationFieldHolds block offset →
        (∀ lower, lower < offset → calibrationFieldHolds block lower) →
        ∃ t, exec (.burstComplete data) s = .next t ∧ t.port.asks .control t.positionBurst ∧
          State.StartRefused
            { s with loader := { s.loader with load := .idle, calibrationWords := [] } } t 6 (q + offset)) ∧
      (∀ (a : Nat) (passed : State → State), a = s.control.planOffset.toNat → 22 ≤ block.length →
        (∀ offset, calibrationFieldHolds block offset) →
        (∀ t, passed t = { s with loader :=
          { calibration := t.loader.calibration, calibrationWords := [], load := t.loader.load
            setX := { s.loader.setX with status := .invalid, mark := .unmarked, references := 0 }
            setY := { s.loader.setY with status := .invalid, mark := .unmarked, references := 0 } } }) →
        ∃ t c, exec (.burstComplete data) s = .next t ∧ t.loader.calibration = some c ∧ c.ReadFrom block ∧
          (if a % 4 ≠ 0 ∨ geo.areaSize < a + 88 then
            t.loader.load = .idle ∧ t.port.asks .control t.positionBurst ∧ State.StartRefused (passed t) t 3 a
          else
            t.loader.load = .copying .x a .header [] ∧
            t.port.asks .loader { offset := a, transfer := .read 16, purpose := .planHeader } ∧
            t = { passed t with control := { s.control with startPhase := .plan }, port := t.port })))

/-- R114 to R117, R124, R126, R180, R29, R135, R160, R167: the words of a plan arrived. The header, whole, is refused with
the code and offset of the first check it fails, or the load enters ARRAYS (that BAD_SPAN gives the plan offset where both
the plan's extent and its baseline table fail is the model's choice, assumption 26). The arrays are copied into the target
set as they arrive, each entry from its place (how much at each burst is the model's choice, assumption 22). When the last
have arrived the plan is refused with BAD_ORDER, else BAD_REF, else BAD_RANGE, and the lowest offset that fails, the set
staying as it was but for its tables; or the set is LOADED with its generation and offset: PENDING for a PLAN post; at
START ACTIVE, and INITIALISING begins: the chainage set and counted, the opening counter 0, the Sheet Writer initialised
and the QUEUED roster writes placed. A plan refused at START returns the survey to IDLE. -/
def Obligations.PlanArrivedIsLoadedOrRefused : Prop :=
  ∀ (data : Vector Word 16) (s : State) (g : Grant) (target : SetId) (q n size words : Nat) (ws all : List Word),
    s.Rested → s.port.grant = some g → g.abandoned = false → g.burst.transfer = .read n →
    all = ws ++ data.toList.take n → size = (s.control.geometry.map Geometry.areaSize).getD 0 →
    words = 22 + 9 * natAt all 2 + 3 * natAt all 3 + 128 * natAt all 4 + 2 * natAt all 5 →
    (s.control.survey = .running ∨ s.control.survey = .starting) →
    (∀ fault : Option (Nat × Nat), g.burst.purpose = .planHeader → s.loader.load = .copying target q .header ws →
      fault = (
        if wordAt all 0 ≠ 0x4E36A002 then some (1, q)
        else if 64 < natAt all 2 then some (2, q + 8) else if 8 < natAt all 3 then some (2, q + 12)
        else if natAt all 4 < 1 ∨ 8 < natAt all 4 then some (2, q + 16) else if 128 < natAt all 5 then some (2, q + 20)
        else if 65535 < natAt all 14 then some (2, q + 56)
        else if size < q + (88 + 36 * natAt all 2 + 12 * natAt all 3 + 512 * natAt all 4 + 8 * natAt all 5) then
          some (3, q)
        else if 1 ≤ natAt all 14 ∧ (natAt all 12 % 4 ≠ 0 ∨ size < natAt all 12 + 520 * natAt all 14) then
          some (3, q + 48)
        else none) →
      (all.length < 22 →
        ∃ t, exec (.burstComplete data) s = .next t ∧
          t = { s with loader := { s.loader with load := .copying target q .header all }, port := t.port } ∧
          t.port.asks .loader { offset := q + 4 * all.length, transfer := .read (min 16 (22 - all.length)),
                                purpose := .planHeader }) ∧
      (∀ code offset, 22 ≤ all.length → fault = some (code, offset) →
        ∃ t, exec (.burstComplete data) s = .next t ∧ s.PlanRefused t code offset ∧ ∀ j, t.planSet j = s.planSet j) ∧
      (all.length = 22 → fault = none →
        ∃ t, exec (.burstComplete data) s = .next t ∧
          t = { s with
            loader := { s.loader with
              load := .copying target q .arrays all, setX := t.loader.setX, setY := t.loader.setY }
            port := t.port } ∧
          (∀ j, t.planSet j =
            if j = target then { s.planSet j with tables := (t.planSet j).tables } else s.planSet j) ∧
          (t.planSet target).tables.ReadFrom all 0 0 0 0 ∧
          t.port.asks .loader { offset := q + 88, transfer := .read 16, purpose := .planArrays })) ∧
    (g.burst.purpose = .planArrays → s.loader.load = .copying target q .arrays ws →
      (all.length < words →
        ∃ t, exec (.burstComplete data) s = .next t ∧
          t = { s with
            loader := { s.loader with
              load := .copying target q .arrays all, setX := t.loader.setX, setY := t.loader.setY }
            port := t.port } ∧
          (∀ j, t.planSet j =
            if j = target then { s.planSet j with tables := (t.planSet j).tables } else s.planSet j) ∧
          (t.planSet target).tables.ReadFrom all (min (natAt all 2) ((all.length - 22) / 9))
            (min (natAt all 3) ((all.length - (22 + 9 * natAt all 2)) / 3))
            (min (natAt all 4) ((all.length - (22 + 9 * natAt all 2 + 3 * natAt all 3)) / 128))
            (min (natAt all 5)
              ((all.length - (22 + 9 * natAt all 2 + 3 * natAt all 3 + 128 * natAt all 4)) / 2)) ∧
          t.port.asks .loader
            { offset := q + 4 * all.length, transfer := .read (min 16 (words - all.length)),
              purpose := .planArrays }) ∧
      (∀ code offset, words ≤ all.length → planFails all code offset →
        ∃ t, exec (.burstComplete data) s = .next t ∧ s.PlanRefused t code (q + offset) ∧
          (∀ j, t.planSet j =
            if j = target then { s.planSet j with tables := (t.planSet j).tables } else s.planSet j) ∧
          (t.planSet target).tables.ReadFrom all (natAt all 2) (natAt all 3) (natAt all 4) (natAt all 5)) ∧
      (words ≤ all.length → (∀ code offset, ¬ planFails all code offset) →
        ∃ t, exec (.burstComplete data) s = .next t ∧
          (t.planSet target).tables.ReadFrom all (natAt all 2) (natAt all 3) (natAt all 4) (natAt all 5) ∧
          (∀ j, t.planSet j =
            if j = target then
              { s.planSet j with
                status := .loaded, generation := natAt all 1, offset := q, tables := (t.planSet j).tables
                mark := if s.control.survey = .running then .pending else .active }
            else s.planSet j) ∧
          (s.control.survey = .running →
            t = { s with
              loader := { s.loader with load := .idle, setX := t.loader.setX, setY := t.loader.setY }
              port := t.port }) ∧
          (∀ geo, s.control.survey = .starting → s.control.geometry = some geo →
            t = { s with
              control := { s.control with startPhase := .initialising }
              chainage := { s.chainage with
                chainage := s.calibration.startChainage * 1024, tracker := .tracking, marker := none
                lineReference := some s.lines, mode := .counting }
              accumulator := { s.accumulator with openingCounter := 0 }
              loader := { s.loader with load := .idle, setX := t.loader.setX, setY := t.loader.setY }
              sheets :=
                { sheetCount := geo.sheetCount, sheetSize := geo.sheetSize, sheetBase := geo.sheetBase, queue := [],
                  lost := 0, runLost := 0, freeSheets := [], filling := none, closedSheets := [], sequence := 0,
                  drain := .still, stopMode := .unset, endWaiting := false, endWritten := none }
              notices := { s.notices with starved := none, unannounced := [] }
              port := t.port } ∧
            t.port.burstsOf .writer = s.port.writerQueue ++ (List.range geo.sheetCount).map (fun k =>
              { offset := 40 + 8 * k, transfer := .write [1, 0], purpose := .queuedEntry }))))

/-- R103: the last burst of a baseline record arrived, in RUNNING or STOPPING. A record of another station is a MISMATCH and sets
BASE_MISMATCH; one that carries WITHHELD sets NO_BASELINE; otherwise the baseline is PRESENT. The comparison begins in every
case. -/
def Obligations.BaselineRecordIsJudged : Prop :=
  ∀ (data : Vector Word 16) (s : State) (g : Grant) (i : BankId) (n : Nat) (record : List Word)
    (cond : BaselineCondition),
    s.Rested → (s.control.survey = .running ∨ s.control.survey = .stopping) → s.DrainGoesOn →
    s.port.grant = some g → g.abandoned = false →
    g.burst.purpose = .baseline → g.burst.transfer = .read n → s.comparator.bank = some i →
    record = s.comparator.record ++ data.toList.take n → 130 ≤ record.length →
    cond = (if (wordAt record 0).toInt ≠ (s.bank i).first then BaselineCondition.mismatch
            else if (wordAt record 1).getLsbD 0 = true then .withheld else .present) →
    ∃ t, exec (.burstComplete data) s = .next t ∧
      t = { s with
        comparator := { s.comparator with phase := .comparing, condition := some cond, record := record }
        accumulator := { s.accumulator with bank0 := t.accumulator.bank0, bank1 := t.accumulator.bank1 }
        port := t.port } ∧
      t.bank i = { s.bank i with flags := { (s.bank i).flags with
        baseMismatch := (s.bank i).flags.baseMismatch || decide (cond = .mismatch)
        noBaseline := (s.bank i).flags.noBaseline || decide (cond = .withheld) } } ∧
      t.bank i.other = s.bank i.other

/-- R167, R29, R5, R47, R126, R135 to R137, R152: the last QUEUED roster write of a START made. The first station opens
under the plan in set X with PLAN_TAKEN and its PLAN record, RUN is sent and the intake opens, the survey is RUNNING, the
position block is to be written, and the Sheet Writer takes sheet 0 for the record: its header and its FILLING roster entry
are placed. -/
def Obligations.StartCompletesAtTheLastRosterWrite : Prop :=
  ∀ (data : Vector Word 16) (s : State) (g : Grant) (ws : List Word) (n : Int),
    s.Rested → s.control.survey = .starting → s.control.startPhase = .initialising → s.port.grant = some g →
    g.abandoned = false → g.burst.purpose = .queuedEntry → g.burst.transfer = .write ws →
    (∀ b ∈ s.port.writerQueue, b.purpose ≠ .queuedEntry) → s.loader.setX.mark = .active →
    s.accumulator.bank0.phase = .free → s.sheets.queue = [] → s.sheets.filling = none → s.sheets.drain = .still →
    1 ≤ s.sheets.sheetCount →
    n = stationNumber s.calibration.stationPitch s.chainage.chainage →
    ∃ t, exec (.burstComplete data) s = .next t ∧
      s.OpensAs t.accumulator.bank0 (s.accumulator.openingCounter + 1) n s.chainage.chainage ∧ s.RefersOnce t ∧
      t = { s with
        control := { s.control with survey := .running, startPhase := .unset }
        sweep := { s.sweep with
          intake := .opened, receiver := .waiting, lastGood := none, runFaults := 0, latch := false,
          markTimer := true, lastCommand := .run }
        cant := { history := [], failures := 0, readInFlight := false }
        sent := s.sent ++ [.head runWord]
        chainage := { s.chainage with peak := s.chainage.chainage, mode := .surveying, openStation := some n }
        accumulator := { s.accumulator with
          openingCounter := s.accumulator.openingCounter + 1, bank0 := t.accumulator.bank0 }
        loader := { s.loader with setX := t.loader.setX }
        notices := { s.notices with
          linkFault := none
          planTaken := some ({ argument := BitVec.ofNat 24 s.loader.setX.generation,
                               particulars := BitVec.ofNat 32 s.loader.setX.offset,
                               more := s.notices.planTaken.isSome }) }
        sheets := { s.sheets with
          queue :=
            [{ record := planRecord .start .x s.loader.setX.generation s.loader.setX.offset n s.chainage.chainage,
               lostBefore := s.sheets.lost }]
          lost := 0, freeSheets := (List.range s.sheets.sheetCount).tail, drain := .opening,
          sequence := if s.sheets.sequence = 4294967295 then 1 else s.sheets.sequence + 1
          filling := some ({ sheet := 0,
                             sequence := if s.sheets.sequence = 4294967295 then 1 else s.sheets.sequence + 1,
                             writeOffset := 16, records := 0, stations := 0 }) }
        port := t.port
        memory := t.memory } ∧
      t.port.asks .control t.positionBurst ∧
      t.port.burstsOf .writer = s.port.writerQueue ++ s.sheets.openingBursts 0 s.loader.setX.generation
        (if s.sheets.sequence = 4294967295 then 1 else s.sheets.sequence + 1)

/-- R136, R138, R140, R134: the FILLING roster entry of a sheet made, the record at the head of the queue is begun, all its
bursts placed at once. The last of them written, the record leaves the queue and the write offset and the counts rise; an
END that waited for room is admitted; END, or a station-kind record that reaches the close-after count, closes the sheet;
else the next record is looked at: written where it fits, and otherwise the sheet closed for it. In RUNNING and in
STOPPING. What is written, field by field: the common header of every record, the body of each kind as its event builds it
(para 11.5, R17, R33, R35, R38, R125, R134), the STATION record of each outcome (para 11.6, R108, R183), and the position
block, four words at offset 24 (para 11.2, R172). -/
def Obligations.WrittenRecordLeavesTheQueue : Prop :=
  (∀ (data : Vector Word 16) (s : State) (g : Grant) (ws : List Word) (q : Queued) (rest : List Queued) (f f' : Filling)
    (w : SheetWriter) (next : SheetWriter × List Burst),
    s.Rested → (s.control.survey = .running ∨ s.control.survey = .stopping) → s.DrainGoesOn →
    s.port.grant = some g → g.abandoned = false → g.burst.transfer = .write ws →
    s.sheets.queue = q :: rest → s.sheets.filling = some f →
    (g.burst.purpose = .fillingEntry →
      ∃ t, exec (.burstComplete data) s = .next t ∧
        t = { s with sheets := { s.sheets with drain := .writing }, port := t.port, memory := t.memory } ∧
        t.port.burstsOf .writer = s.port.writerQueue ++ s.sheets.recordBursts f q) ∧
    (g.burst.purpose = .record → (∀ b ∈ s.port.writerQueue, b.purpose ≠ .record) →
      f' = { f with
        writeOffset := f.writeOffset + 4 * (2 + q.record.body.length), records := f.records + 1,
        stations := if q.record.kind = .station then f.stations + 1 else f.stations } →
      w = { s.sheets with
        queue := rest ++
          (if s.sheets.endWaiting then
            [{ record := endRecord .finish 0 s.sheets.runLost s.chainage.chainage, lostBefore := s.sheets.lost }]
          else [])
        lost := if s.sheets.endWaiting then 0 else s.sheets.lost
        endWaiting := false
        filling := some f'
        endWritten := if q.record.kind = .finish then q.record.body.head? else s.sheets.endWritten } →
      next = (
        if q.record.kind = .finish ∨ (q.record.kind = .station ∧ 1 ≤ s.activeTables.closeAfter ∧
            s.activeTables.closeAfter ≤ f'.stations) then
          ({ w with drain := .closing }, w.closingBursts f')
        else w.looksAtHead s.activeGeneration) →
      ∃ t, exec (.burstComplete data) s = .next t ∧
        t = { s with sheets := next.1, port := t.port, memory := t.memory } ∧
        t.port.burstsOf .writer = s.port.writerQueue ++ next.2)) ∧
  (∀ q : Queued, q.HeadedBy
    (match q.record.kind with
      | .station => 1 | .marker => 2 | .plan => 3 | .reversal => 4 | .resume => 5 | .link => 6 | .finish => 7)
    q.inWords) ∧
  (∀ (ident : BitVec 16) (measured e : Int) (truth : Option Int) (snapped crowded : Bool) (r : Record),
    r = markerRecord ident measured truth snapped crowded →
    r.Plain .marker 6 crowded truth.isNone snapped ∧ wordAt r.body 0 = ident.setWidth 32 ∧
    wordAt r.body 1 = heldWord measured ∧
    (∀ x, truth = some x → e = x - max (-2147483648) (min 2147483647 measured) →
      wordAt r.body 2 = BitVec.ofInt 32 x ∧ wordAt r.body 3 = heldWord e) ∧
    (truth = none → wordAt r.body 2 = 0x80000000 ∧ wordAt r.body 3 = 0x80000000)) ∧
  (∀ (cause : PlanCause) (set : SetId) (generation offset : Nat) (station x : Int) (r : Record),
    r = planRecord cause set generation offset station x →
    r.Plain .plan 6 false false false ∧ (wordAt r.body 0).extractLsb' 0 16 = BitVec.ofNat 16 generation ∧
    (wordAt r.body 0).extractLsb' 16 8 = (if set = .x then 0 else 1) ∧
    (wordAt r.body 0).extractLsb' 24 8 = (if cause = .start then 1 else 2) ∧
    wordAt r.body 1 = BitVec.ofNat 32 offset ∧ wordAt r.body 2 = BitVec.ofInt 32 station ∧
    wordAt r.body 3 = chainageWord x) ∧
  (∀ (station x peak : Int) (r : Record), r = reversalRecord station x peak →
    r.Plain .reversal 5 false false false ∧ wordAt r.body 0 = BitVec.ofInt 32 station ∧
    wordAt r.body 1 = chainageWord x ∧ wordAt r.body 2 = chainageWord peak) ∧
  (∀ (station x : Int) (r : Record), r = resumeRecord station x →
    r.Plain .resume 4 false false false ∧ wordAt r.body 0 = BitVec.ofInt 32 station ∧
    wordAt r.body 1 = chainageWord x) ∧
  (∀ (cause : LinkCause) (lastGood : Option (BitVec 16)) (faults : Nat) (x : Int) (r : Record),
    r = linkRecord cause lastGood faults x →
    r.Plain .link 5 false false lastGood.isNone ∧ wordAt r.body 0 = (if cause = .timeout then 1 else 2) ∧
    (wordAt r.body 1).extractLsb' 0 16 = lastGood.getD 0 ∧
    (wordAt r.body 1).extractLsb' 16 16 = BitVec.ofNat 16 faults ∧ wordAt r.body 2 = chainageWord x) ∧
  (∀ (mode : StopMode) (cleared lost : Nat) (x : Int) (r : Record), r = endRecord mode cleared lost x →
    r.Plain .finish 4 false false false ∧ (wordAt r.body 0).extractLsb' 0 8 = BitVec.ofNat 8 cleared ∧
    (mode = .finish → (wordAt r.body 0).extractLsb' 8 8 = 1) ∧
    (mode = .drop → (wordAt r.body 0).extractLsb' 8 8 = 2) ∧
    (wordAt r.body 0).extractLsb' 16 16 = BitVec.ofNat 16 lost ∧ wordAt r.body 1 = chainageWord x) ∧
  (∀ (b : Bank) (template deform : Nat) (m : ClearanceSummary) (deviation : Option Int)
    (entries : List SectorEntry),
    (stationRecord .evaluated b template m deform deviation entries).StationFields 1 b template m deform deviation
      entries ∧
    (bareStationRecord .empty b).StationFields 2 b 0
      { worstMargin := none, worstSector := none, encroach := 0, near := 0, blind := 0 } 0 none [] ∧
    (bareStationRecord .abandoned b).StationFields 3 b 0
      { worstMargin := none, worstSector := none, encroach := 0, near := 0, blind := 0 } 0 none []) ∧
  (∀ s : State, ∃ block, s.positionBurst = { offset := 24, transfer := .write block, purpose := .position } ∧
    s.PositionWords block)

/-- R140, R158, R136, R137, R139, R154, R144, R170: the CLOSED roster entry of the filling sheet written: the sheet leaves
the filling slot for the tail of the closed list and joins the unannounced-sheet list. In RUNNING, and in a stop whose END
is not written, the Sheet Writer is READY and looks at the next record: it takes a sheet for it, or, with none free, is
STARVED and SHEET_STARVED is raised with the number of records waiting. Where the sheet closed on END, the HELD entry of
each sheet in the free sheet queue is placed, in queue order, the drain state CLOSING while they are made (the model's
choice, assumption 23); with none in it the stop is written and ends at this event, the Sheet Writer's own stop mode
standing after it (the model's choice, assumption 17). -/
def Obligations.ClosedSheetIsAnnounced : Prop :=
  ∀ (data : Vector Word 16) (s : State) (g : Grant) (ws : List Word) (f : Filling) (w : SheetWriter) (u : List Nat),
    s.Rested → s.port.grant = some g → g.abandoned = false → g.burst.purpose = .closedEntry →
    g.burst.transfer = .write ws → s.sheets.filling = some f →
    w = { s.sheets with filling := none, closedSheets := s.sheets.closedSheets ++ [f.sheet] } →
    u = s.notices.unannounced ++ [f.sheet] →
    ((s.control.survey = .running ∨ s.control.survey = .stopping) → s.DrainGoesOn → s.sheets.endWritten = none →
      ∃ t, exec (.burstComplete data) s = .next t ∧
        t = { s with
          sheets := (w.looksAtHead s.activeGeneration).1
          notices := { s.notices with
            unannounced := u
            starved := if (w.looksAtHead s.activeGeneration).1.drain = .starved then
                (some (BitVec.ofNat 32 s.sheets.queue.length) : Option Word)
              else s.notices.starved }
          port := t.port
          memory := t.memory } ∧
        t.port.burstsOf .writer = s.port.writerQueue ++ (w.looksAtHead s.activeGeneration).2) ∧
    (∀ e, s.control.survey = .stopping → s.control.stopPhase = .ending → s.sheets.endWritten = some e →
      (s.sheets.freeSheets ≠ [] →
        ∃ t, exec (.burstComplete data) s = .next t ∧
          t = { s with
            sheets := w, notices := { s.notices with unannounced := u }, port := t.port, memory := t.memory } ∧
          t.port.burstsOf .writer = s.port.writerQueue ++ s.sheets.freeSheets.map (fun k =>
            { offset := 40 + 8 * k, transfer := .write [0, 0], purpose := .heldEntry })) ∧
      (s.sheets.freeSheets = [] →
        ∃ t, exec (.burstComplete data) s = .next t ∧
          State.StopEnded { s with notices := { s.notices with unannounced := u } } t e))

/-- R144, R170, R128, R172: the last HELD roster write of a stop in phase ENDING made. STOP is sent, the survey is IDLE and
the Chainage Unit HELD, both plan sets are INVALID, no sheet is held, STOPPED carries what END carried, and the position
block is to be written. (That the Sheet Writer's own stop mode stands after the stop, the manual giving it no value, is the
model's choice, assumption 17.) -/
def Obligations.StopEndsAtTheLastHeldWrite : Prop :=
  ∀ (data : Vector Word 16) (s : State) (g : Grant) (ws : List Word) (e : Word),
    s.Rested → s.control.survey = .stopping → s.control.stopPhase = .ending → s.port.grant = some g →
    g.abandoned = false → g.burst.purpose = .heldEntry → g.burst.transfer = .write ws →
    (∀ b ∈ s.port.writerQueue, b.purpose ≠ .heldEntry) → s.sheets.endWritten = some e →
    ∃ t, exec (.burstComplete data) s = .next t ∧ s.StopEnded t e

/-! ### The register window and posts -/

/-- R149, R150, R18, R152: a read of NOTICE returns what NOTICE shows, loads DETAIL with the particulars of the kind
presented, and carries out that kind's action: none for FAULT and SHEET_STARVED, the oldest entry removed for ALERT (with
DISPLACED cleared) and SHEET_READY, the latch cleared for every other kind, and with LINK_FAULT's the Sweep Port's. -/
def Obligations.NoticeReadPresentsAndActs : Prop :=
  ∀ s : State,
    (s.notices.presented = none →
      exec .noticeRead s = .next { s with hostRead := 0, notices := { s.notices with detail := 0 } }) ∧
    (∀ x, s.notices.presented = some x →
      exec .noticeRead s = .next { s with
        hostRead := s.notices.value
        notices := { s.notices with
          detail := x.particulars
          linkFault := if x.kind = .linkFault then none else s.notices.linkFault
          alerts := if x.kind = .alert then s.notices.alerts.tail else s.notices.alerts
          displaced := if x.kind = .alert then false else s.notices.displaced
          markerMismatch := if x.kind = .markerMismatch then none else s.notices.markerMismatch
          cantFault := if x.kind = .cantFault then none else s.notices.cantFault
          setupFault := if x.kind = .setupFault then none else s.notices.setupFault
          planTaken := if x.kind = .planTaken then none else s.notices.planTaken
          reversal := if x.kind = .reversal then none else s.notices.reversal
          stopped := if x.kind = .stopped then none else s.notices.stopped
          unannounced := if x.kind = .sheetReady then s.notices.unannounced.tail else s.notices.unannounced }
        sweep := { s.sweep with latch := if x.kind = .linkFault then false else s.sweep.latch } })

/-- R162: a write to AREA is taken in IDLE, bits 1..0 held at 0, and withdraws a waiting position write; in every other
survey state it is ignored. A write to CONTROL sets or clears the enable in every state. Writes to IDENT, NOTICE and
DETAIL are ignored. -/
def Obligations.WindowWritesAreTakenAsTheTableGives : Prop :=
  (∀ (v : Word) (s : State), s.control.survey = .idle →
    exec (.areaWrite v) s = .next { s with
      control := { s.control with area := v &&& 0xFFFFFFFC }
      port := { s.port with controlQueue := s.port.controlQueue.filter (fun b => b.purpose != .position) } }) ∧
  (∀ (v : Word) (s : State), s.control.survey ≠ .idle → exec (.areaWrite v) s = .next s) ∧
  (∀ (v : Word) (s : State),
    exec (.interruptEnableWrite v) s =
      .next { s with control := { s.control with interruptEnable := v.getLsbD 0 } }) ∧
  (∀ (r : IgnoredRegister) (v : Word) (s : State), exec (.ignoredRegisterWrite r v) s = .next s)

/-- R163: a post of an unknown kind has the result BAD_ARG; one in a survey state that does not accept its kind,
BAD_STATE; a RETURN of a sheet that is not in the closed list, BAD_ARG (R141). A refused post changes nothing but the last
post. -/
def Obligations.RefusedPostChangesOnlyTheLastPost : Prop :=
  ∀ (s : State) (a : BitVec 24),
    (∀ kind, knownPostKind kind = false → exec (.unknownPostKind kind a) s =
      .next { s with control := { s.control with lastKind := kind, lastResult := .badArg } }) ∧
    (s.control.survey ≠ .idle → exec (.start a) s =
      .next { s with control := { s.control with lastKind := 1, lastResult := .badState } }) ∧
    (s.control.survey ≠ .running → exec (.plan a) s =
      .next { s with control := { s.control with lastKind := 2, lastResult := .badState } }) ∧
    (s.control.survey ≠ .running → s.control.survey ≠ .stopping → exec (.returnSheet a) s =
      .next { s with control := { s.control with lastKind := 3, lastResult := .badState } }) ∧
    (s.control.survey = .running ∨ s.control.survey = .stopping → a.toNat ∉ s.sheets.closedSheets →
      exec (.returnSheet a) s =
        .next { s with control := { s.control with lastKind := 3, lastResult := .badArg } }) ∧
    (s.control.survey ≠ .running → exec (.stopFinish a) s =
      .next { s with control := { s.control with lastKind := 4, lastResult := .badState } }) ∧
    (s.control.survey ≠ .running → s.control.survey ≠ .stopping → exec (.stopDrop a) s =
      .next { s with control := { s.control with lastKind := 5, lastResult := .badState } })

/-- R165: a START accepted: STARTING in phase HEADER with the post's offset kept, no area geometry, no calibration in
force, and the six leading fields of the area header asked for. -/
def Obligations.StartPostBeginsTheHeaderRead : Prop :=
  ∀ (a : BitVec 24) (s : State), s.Rested → s.control.survey = .idle →
    ∃ t, exec (.start a) s = .next t ∧
      t = { s with
        control := { s.control with
          survey := .starting, startPhase := .header, planOffset := a, geometry := none, lastKind := 1,
          lastResult := .ok }
        loader := { s.loader with calibration := none, calibrationWords := [] }
        port := t.port } ∧
      t.port.asks .control { offset := 0, transfer := .read 6, purpose := .areaHeader } ∧
      (s.port.grant ≠ none → t.port = { s.port with controlQueue := s.port.controlQueue ++
        [{ offset := 0, transfer := .read 6, purpose := .areaHeader }] })

/-- R120, R123, R114: a PLAN accepted: a load in hand is superseded, its bursts withdrawn; then the load waits where the
set that is not ACTIVE is LOADED, unmarked and referenced, is refused with BAD_SPAN where its offset is misaligned or its
header lies beyond the area, and otherwise begins in phase HEADER with the set INVALID and unmarked. -/
def Obligations.PlanPostSupersedesAndBegins : Prop :=
  ∀ (a : BitVec 24) (s : State) (target : SetId),
    s.Rested → s.control.survey = .running →
    target = (if s.loader.setX.mark = .active then SetId.y else .x) →
    ∃ t, exec (.plan a) s = .next t ∧
      t.control = { s.control with lastKind := 2, lastResult := .ok } ∧
      (if (s.planSet target).status = .loaded ∧ (s.planSet target).mark = .unmarked ∧
          0 < (s.planSet target).references then
        t = { s with
          control := t.control
          loader := { s.loader with load := .waiting target a.toNat }
          port := t.port } ∧ t.port.loaderQueue = []
      else
        t.planSet target = { s.planSet target with status := .invalid, mark := .unmarked } ∧
        (∀ j, j ≠ target → t.planSet j = s.planSet j) ∧
        (if a.toNat % 4 ≠ 0 ∨ (s.control.geometry.map Geometry.areaSize).getD 0 < a.toNat + 88 then
          t = { s with
            control := t.control
            loader := { s.loader with
              load := .idle, calibrationWords := [], setX := t.loader.setX, setY := t.loader.setY }
            notices := { s.notices with
              setupFault := some ({ argument := 3, particulars := a.setWidth 32,
                                    more := s.notices.setupFault.isSome }) }
            port := t.port } ∧ t.port.loaderQueue = []
        else
          t = { s with
            control := t.control
            loader := { s.loader with
              load := .copying target a.toNat .header [], setX := t.loader.setX, setY := t.loader.setY }
            port := t.port } ∧
          t.port.asks .loader { offset := a.toNat, transfer := .read 16, purpose := .planHeader })) ∧
      (∀ g, s.port.grant = some g → g.requester = .loader → t.port.grant = some { g with abandoned := true })

/-- R141, R139, R143, R144: a RETURN of a sheet of the closed list, in RUNNING or STOPPING: the sheet goes to the tail of the
free sheet queue and leaves the unannounced-sheet list, and its QUEUED roster entry stands first among the Sheet Writer's
bursts not yet granted. While the HELD entries at the end of a stop are being made its HELD entry follows at the tail. A
STARVED Sheet Writer clears SHEET_STARVED and takes the sheet at once: its header and FILLING entry are placed. (That the
QUEUED entry stands before that of an earlier RETURN still waiting is the model's choice, assumption 16.) -/
def Obligations.ReturnedSheetIsFreeAgain : Prop :=
  ∀ (a : BitVec 24) (s : State) (w : SheetWriter) (queued : Burst),
    s.Rested → (s.control.survey = .running ∨ s.control.survey = .stopping) → s.DrainGoesOn →
    a.toNat ∈ s.sheets.closedSheets →
    w = { s.sheets with
      closedSheets := s.sheets.closedSheets.erase a.toNat, freeSheets := s.sheets.freeSheets ++ [a.toNat] } →
    queued = { offset := 40 + 8 * a.toNat, transfer := .write [1, 0], purpose := .returnedEntry } →
    (s.sheets.drain ≠ .starved →
      ∃ t, exec (.returnSheet a) s = .next t ∧
        t = { s with
          control := { s.control with lastKind := 3, lastResult := .ok }
          sheets := w
          notices := { s.notices with unannounced := s.notices.unannounced.erase a.toNat }
          port := { s.port with writerQueue := t.port.writerQueue, grant := t.port.grant } } ∧
        t.port.burstsOf .writer = s.port.grantedTo .writer ++ queued :: (s.port.writerQueue ++
          (if s.sheets.endWritten ≠ none ∧ s.sheets.filling = none then
            [{ offset := 40 + 8 * a.toNat, transfer := .write [0, 0], purpose := .heldEntry }]
          else []))) ∧
    (∀ n, s.sheets.drain = .starved → s.sheets.freeSheets = [] → s.sheets.endWritten = none →
      n = (if s.sheets.sequence = 4294967295 then 1 else s.sheets.sequence + 1) →
      ∃ t, exec (.returnSheet a) s = .next t ∧
        t = { s with
          control := { s.control with lastKind := 3, lastResult := .ok }
          sheets := { w with
            drain := .opening, sequence := n, freeSheets := []
            filling := some ({ sheet := a.toNat, sequence := n, writeOffset := 16, records := 0, stations := 0 }) }
          notices := { s.notices with
            unannounced := s.notices.unannounced.erase a.toNat, starved := none }
          port := { s.port with writerQueue := t.port.writerQueue, grant := t.port.grant } } ∧
        t.port.burstsOf .writer = s.port.grantedTo .writer ++ queued :: (s.port.writerQueue ++
          s.sheets.openingBursts a.toNat s.activeGeneration n))

/-- R169, R19, R42, R72, R77, R128, R144, R172: a STOP_FINISH accepted: STOPPING, DRAINING, the revolution in hand
discarded, the intake CLOSED, the Chainage Unit COUNTING, the load cancelled, and the open station closed CUT_SHORT with
its span as it stands, behind a bank that waits. With none waiting and no revolution left in hand it becomes EVALUATING at
the post, or, with none committed, ends EMPTY; where the revolution discarded was the last in hand of a CLOSING station,
that station does. With no station open (BACKED) nothing is closed and what is at work goes on; with nothing left at work
END is offered at the post itself. The position block is to be written, with the values at the end of the event, the open
station already absent (the model's choice, assumption 8). -/
def Obligations.StopFinishClosesTheOpenStation : Prop :=
  ∀ (a : BitVec 24) (s : State) (tag : Option Tag) (b : Bank) (stopped : State → State),
    s.Rested → s.EvaluationsBegun → s.control.survey = .running →
    tag = s.sweep.current.bind Revolution.tag → s.LeavesNoneEmpty tag →
    (∀ t, stopped t = { s with
      control := { s.control with
        survey := .stopping, stopPhase := .draining, stopMode := .finish, lastKind := 4, lastResult := .ok }
      sweep := { s.sweep with
        intake := .closed, receiver := .waiting, markTimer := false, current := none
        bufferA := t.sweep.bufferA, bufferB := t.sweep.bufferB }
      cant := { s.cant with readInFlight := false }
      chainage := { s.chainage with mode := .counting, marker := none, openStation := none }
      loader := { s.loader with load := .idle }
      accumulator := { s.accumulator with bank0 := t.accumulator.bank0, bank1 := t.accumulator.bank1 } }) →
    (∀ i, s.openBank = some i → i ∉ s.accumulator.evaluationOrder →
      b = { s.bankAfterDiscard tag i with
        endChainage := some (s.chainage.chainage / 1024), boundaryHeld := false
        flags := { (s.bank i).flags with cutShort := true } } →
      (s.accumulator.evaluationOrder = [] → b.inHand = 0 → b.committed ≠ 0) →
      ∃ t, exec (.stopFinish a) s = .next t ∧
        t = { stopped t with
          sheets := { s.sheets with stopMode := .finish }
          accumulator := { (stopped t).accumulator with
            evaluationOrder := s.accumulator.evaluationOrder ++ [i] }
          evaluator := t.evaluator
          port := t.port } ∧
        (∀ j, t.buffer j =
          if s.sweep.current.map Revolution.buffer = some j then { phase := .free, samples := [] } else s.buffer j) ∧
        (if s.accumulator.evaluationOrder = [] ∧ b.inHand = 0 then
          t.bank i = s.evaluatingBank i b ∧ t.evaluator = s.evaluatorTaking i
        else t.bank i = { b with phase := .closing } ∧ t.evaluator = s.evaluatorAfterReport tag) ∧
        t.bank i.other = s.bankAfterReport tag i.other ∧
        t.port.loaderQueue = [] ∧ t.port.asks .control t.positionBurst) ∧
    (∀ (i : BankId) (y : Tally), s.openBank = some i → s.accumulator.evaluationOrder = [] →
      b = { s.bankAfterDiscard tag i with
        endChainage := some (s.chainage.chainage / 1024), boundaryHeld := false
        flags := { (s.bank i).flags with cutShort := true } } →
      b.inHand = 0 → b.committed = 0 → (s.bank i.other).phase = .free →
      y = s.sheets.tally.offer (bareStationRecord .empty (s.evaluatingBank i b)) →
      ∃ t, exec (.stopFinish a) s = .next t ∧
        t.sheets.tally = (if s.sweep.handover = [] then y.offerEnd .finish 0 s.chainage.chainage else y) ∧
        t.sheets.endWaiting =
          (s.sheets.endWaiting || decide (s.sweep.handover = [] ∧ 8 ≤ y.queue.length)) ∧
        t.sheets.stopMode = .finish ∧
        t = { stopped t with
          control := { (stopped t).control with
            stopPhase := if s.sweep.handover = [] then .ending else .draining }
          loader := { s.loader with load := .idle, setX := t.loader.setX, setY := t.loader.setY }
          sheets := t.sheets
          notices := { s.notices with starved := t.notices.starved }
          port := t.port } ∧
        (∀ j, t.buffer j =
          if s.sweep.current.map Revolution.buffer = some j then { phase := .free, samples := [] } else s.buffer j) ∧
        t.bank i = (s.evaluatingBank i b).freed ∧ t.bank i.other = s.bank i.other ∧ s.ReleasesOnce t i ∧
        t.port.loaderQueue = [] ∧ t.port.asks .control t.positionBurst) ∧
    ((∀ i, (s.bank i).phase ≠ .opened) → (s.sweep.handover ≠ [] ∨ ∃ i, (s.bank i).phase ≠ .free) →
      ∃ t, exec (.stopFinish a) s = .next t ∧
        t = { stopped t with
          sheets := { s.sheets with stopMode := .finish }, evaluator := s.evaluatorAfterReport tag, port := t.port } ∧
        (∀ j, t.buffer j =
          if s.sweep.current.map Revolution.buffer = some j then { phase := .free, samples := [] } else s.buffer j) ∧
        (∀ i, t.bank i = s.bankAfterReport tag i) ∧ t.port.loaderQueue = [] ∧
        t.port.asks .control t.positionBurst) ∧
    ((∀ i, (s.bank i).phase = .free) → s.sweep.handover = [] → s.accumulator.evaluationOrder = [] →
      ∃ t, exec (.stopFinish a) s = .next t ∧
        t.sheets.tally = s.sheets.tally.offerEnd .finish 0 s.chainage.chainage ∧
        t.sheets.endWaiting = (s.sheets.endWaiting || decide (8 ≤ s.sheets.queue.length)) ∧
        t.sheets.stopMode = .finish ∧
        t = { stopped t with
          control := { (stopped t).control with stopPhase := .ending }
          sheets := t.sheets
          notices := { s.notices with starved := t.notices.starved }
          port := t.port } ∧
        (∀ j, t.buffer j =
          if s.sweep.current.map Revolution.buffer = some j then { phase := .free, samples := [] } else s.buffer j) ∧
        (∀ i, t.bank i = s.bank i) ∧ t.port.loaderQueue = [] ∧ t.port.asks .control t.positionBurst)

/-- R171, R145, R19, R42, R78, R119, R128: a STOP_DROP accepted in RUNNING, or in a stop of FINISH with no END admitted
(DRAINING, or END waiting for room): the intake CLOSED and every buffer emptied, every bank FREE and its plan set reference
released, the assessments and the load ended, the Chainage Unit COUNTING, the bursts of what is cleared withdrawn, the output
queue cleared and END of DROP admitted with the number cleared. With the END of FINISH admitted and its write not begun that
END takes mode DROP and the number cleared ahead of it. With its write begun or made, and in a stop that is a DROP already,
the post changes nothing but the last post: both stop modes stand at a STOP_DROP taken after END's write began (the model's
reading, assumption 17). In RUNNING the position block is to be written, with the values at the end of the event, the open
station already absent (the model's choice, assumption 8). -/
def Obligations.StopDropThrowsTheWorkAway : Prop :=
  ∀ (a : BitVec 24) (s : State) (w : SheetWriter), s.Rested →
    (s.control.survey = .running ∨
        (s.control.survey = .stopping ∧ s.control.stopMode = .finish ∧ s.sheets.endWritten = none) →
      (∀ q ∈ s.sheets.queue, q.record.kind ≠ .finish) →
      w = { s.sheets with
        stopMode := .drop, endWaiting := false, lost := 0
        queue := [{ record := endRecord .drop s.sheets.queue.length s.sheets.runLost s.chainage.chainage,
                    lostBefore := s.sheets.lost }]
        drain := if s.sheets.drain = .writing then .ready else s.sheets.drain } →
      ∃ t, exec (.stopDrop a) s = .next t ∧ s.DropsWork t w ∧
        (s.control.survey = .running → t.port.asks .control t.positionBurst)) ∧
    (∀ (ahead : List Queued) (lostBefore r : Nat) (x : Int),
      s.control.survey = .stopping → s.control.stopMode = .finish → s.sheets.endWritten = none →
      s.sheets.queue = ahead ++ [{ record := endRecord .finish 0 r x, lostBefore := lostBefore }] →
      (∀ q ∈ ahead, q.record.kind ≠ .finish) → ¬ (s.sheets.drain = .writing ∧ ahead = []) →
      w = { s.sheets with
        stopMode := .drop, endWaiting := false
        queue := [{ record := endRecord .drop ahead.length r x, lostBefore := lostBefore }]
        drain := if s.sheets.drain = .writing then .ready else s.sheets.drain } →
      ∃ t, exec (.stopDrop a) s = .next t ∧ s.DropsWork t w) ∧
    (s.control.survey = .stopping → s.DrainGoesOn →
      (s.control.stopMode = .drop ∨ s.sheets.endWritten ≠ none ∨
        (s.sheets.drain = .writing ∧ ∃ q rest, s.sheets.queue = q :: rest ∧ q.record.kind = .finish)) →
      exec (.stopDrop a) s = .next { s with control := { s.control with lastKind := 5, lastResult := .ok } })

/-- R174, R164, R21: a full or soft reset brings every block to its reset state, sends STOP to the head, and leaves no
burst in progress. A soft reset keeps AREA and CONTROL and leaves the last post RESET, OK; a full reset leaves AREA 0, the
enable clear and the last post kind 0, OK. NOTICE reads NONE and the interrupt line is deasserted. The reset state of each
block is that of its table (R21, R42, R50, R78, R98, R112, R128, R148, R161, R174). Where no write burst is in progress the
survey memory stands. (That the levels of the lines, what the host last read, what has been sent and the waiting commands,
all outside the part, stand at a reset is the model's choice, assumptions 1 and 11.) -/
def Obligations.ResetBringsEveryBlockToItsResetState : Prop :=
  (∀ (a : BitVec 24) (s : State), ∃ t, exec (.reset a) s = .next t ∧
    t = { State.reset with
      control :=
        { survey := .idle, startPhase := .unset, stopPhase := .unset, stopMode := .unset, planOffset := 0,
          geometry := none, lastKind := 6, lastResult := .ok, area := s.control.area,
          interruptEnable := s.control.interruptEnable }
      sent := s.sent ++ [.head stopWord], memory := t.memory, freeIndex := t.freeIndex, lines := s.lines
      hostRead := s.hostRead, pending := s.pending } ∧
    t.notices.value = 0 ∧ t.interruptLine = false ∧
    ((∀ g ws, s.port.grant = some g → g.burst.transfer ≠ .write ws) → t.memory = s.memory)) ∧
  (∀ s : State, ∃ t, exec .fullReset s = .next t ∧
    t = { State.reset with
      control :=
        { survey := .idle, startPhase := .unset, stopPhase := .unset, stopMode := .unset, planOffset := 0,
          geometry := none, lastKind := 0, lastResult := .ok, area := 0, interruptEnable := false }
      sent := s.sent ++ [.head stopWord], memory := t.memory, freeIndex := t.freeIndex, lines := s.lines
      hostRead := s.hostRead, pending := s.pending } ∧
    t.notices.value = 0 ∧ t.interruptLine = false ∧
    ((∀ g ws, s.port.grant = some g → g.burst.transfer ≠ .write ws) → t.memory = s.memory)) ∧
  (State.reset.sweep =
    { intake := .closed, receiver := .waiting, bufferA := { phase := .free, samples := [] }
      bufferB := { phase := .free, samples := [] }, current := none, handover := [], lastGood := none
      markTimer := false, latch := false, runFaults := 0, lastCommand := .stop } ∧
  State.reset.chainage =
    { mode := .held, chainage := 0, peak := 0, tracker := .tracking, lineReference := none, openStation := none
      marker := none } ∧
  State.reset.cant = { history := [], failures := 0, readInFlight := false } ∧
  State.reset.accumulator.openingCounter = 0 ∧ State.reset.accumulator.commit = none ∧
  State.reset.accumulator.evaluationOrder = [] ∧
  (∀ i, State.reset.bank i =
    { phase := .free, openingNumber := 0, first := 0, span := 1, startChainage := 0, endChainage := none
      planReference := none, zone := none, committed := 0, discarded := 0, inHand := 0, boundaryHeld := false
      flags :=
        { thin := false, poorCover := false, cantHeld := false, window := false, snapped := false, stretched := false
          cutShort := false, odo := false, defaultZone := false, noBaseline := false, baseMismatch := false }
      rail := Vector.replicate 256 { count := 0, least := 16383, second := 16383 }
      level := Vector.replicate 256 { count := 0, sum := 0 } }) ∧
  State.reset.evaluator =
    { phase := .idle, bank := none, template := 0, tolerance := 0, warn := 0, blindLimit := 0, nextSector := 0
      results := []
      summary := { worstMargin := none, worstSector := none, encroach := 0, near := 0, blind := 0 } } ∧
  State.reset.comparator =
    { phase := .idle, bank := none, rail := none, baselineUse := false, deformLimit := 1, meanFloor := 1
      mode := .exceptions, descriptor := { offset := 0, first := 0, count := 0 }, condition := some .notUsed
      record := [], nextSector := 0, results := [], deformCount := 0, maxDeviation := none } ∧
  State.reset.loader.calibration = none ∧ State.reset.loader.calibrationWords = [] ∧ State.reset.loader.load = .idle ∧
  (∀ j, State.reset.planSet j =
    { status := .invalid, mark := .unmarked, references := 0, generation := 0, offset := 0
      tables :=
        { straight := 0, snapWindow := 0, kr := 0, km := 0, blindLimit := 0, closeAfter := 0
          baseline := { offset := 0, first := 0, count := 0 }
          defaults := { radius := 0, tolerance := 0, warn := 0, deformLimit := 0, floor := 0, mode := .exceptions
                        baselineUse := false }
          zones := [], bands := [], templates := [], markers := [] } }) ∧
  State.reset.sheets =
    { sheetCount := 0, sheetSize := 0, sheetBase := 0, queue := [], lost := 0, runLost := 0, freeSheets := []
      filling := none, closedSheets := [], sequence := 0, drain := .still, stopMode := .unset, endWaiting := false
      endWritten := none } ∧
  State.reset.notices =
    { fault := none, linkFault := none, alerts := [], displaced := false, starved := none, markerMismatch := none
      cantFault := none, setupFault := none, planTaken := none, reversal := none, stopped := none, unannounced := []
      detail := 0 } ∧
  State.reset.port =
    { comparatorQueue := [], writerQueue := [], controlQueue := [], loaderQueue := [], grant := none
      access := .opened })

/-! ### What the readings amount to -/

/-- R65, R66: a rail cell that has been empty and then folded a run of ranges of 1..16383 keeps the least and the second
least of them, a repeated value counted twice, and counts them up to 65535; a level cell keeps the sum of the first 65535.
R51 to R56, R64: the samples of a revolution are corrected and folded one after another. A sample of range 0, of a strength
below the floor, of a corrected range outside the range window or of a masked rail sector changes no cell; any other folds
its corrected range, held within 1..16383, into the rail cell of its rail sector (trim and mount roll added to its angle)
and the level cell of its level sector (C added to that), and changes nothing else. -/
def Obligations.CellsKeepTheTwoLeastAndTheSum : Prop :=
  (∀ rs : List Nat, (∀ r ∈ rs, 1 ≤ r ∧ r ≤ 16383) →
    rs.foldl RailCell.fold { count := 0, least := 16383, second := 16383 } =
      { count := min 65535 rs.length, least := (rs.mergeSort (· ≤ ·)).getD 0 16383,
        second := (rs.mergeSort (· ≤ ·)).getD 1 16383 } ∧
    rs.foldl LevelCell.fold { count := 0, sum := 0 } =
      { count := min 65535 rs.length, sum := (rs.take 65535).sum }) ∧
  ∀ (c : Calibration) (floor r : Nat) (cantOffset rail level : Int) (b before after : Bank) (xs : List Sample) (x : Sample),
    b.foldSamples c floor cantOffset [] = b ∧
    (before = b.foldSamples c floor cantOffset xs → after = b.foldSamples c floor cantOffset (xs ++ [x]) →
      rail = ((x.angle.toNat : Int) + (c.trimCode - 8) + c.mountRoll) % 4096 → level = (rail + cantOffset) % 4096 →
      (r : Int) = max 1 (min 16383 (x.range.toNat + c.zeroOffset)) →
      (x.range = 0 ∨ x.strength.toNat < floor ∨ r < c.rmin ∨ c.rmax < r ∨
        c.mask.getLsbD (rail.toNat / 16) = true → after = before) ∧
      (x.range ≠ 0 → floor ≤ x.strength.toNat → c.rmin ≤ r → r ≤ c.rmax →
        c.mask.getLsbD (rail.toNat / 16) = false →
        after = { before with rail := after.rail, level := after.level } ∧
        (∀ k : Sector, after.rail.get k =
          if (k.val : Int) = rail / 16 then (before.rail.get k).fold r else before.rail.get k) ∧
        (∀ k : Sector, after.level.get k =
          if (k.val : Int) = level / 16 then (before.level.get k).fold r else before.level.get k)))

/-- R48, R49: the cant in use of a history is a whole number nearest to the mean, the one away from zero at a half, held
within -1500..+1500, and 0 for an empty history; C, in angle units, is likewise the nearest to 4096/36000 of it, and lies
in -171..+171. -/
def Obligations.CantInUseIsTheNearestMean : Prop :=
  (cantInUse [] = 0) ∧
  (∀ history : List Int, history ≠ [] → ∀ m : Int,
    (2 * (m * history.length - history.sum)).natAbs ≤ history.length →
    ((2 * (m * history.length - history.sum)).natAbs = history.length → history.sum.natAbs < (m * history.length).natAbs) →
    cantInUse history = max (-1500) (min 1500 m)) ∧
  (∀ cant : Int, -1500 ≤ cant → cant ≤ 1500 →
    -171 ≤ cantAngleOffset cant ∧ cantAngleOffset cant ≤ 171 ∧
      (2 * (cantAngleOffset cant * 36000 - cant * 4096)).natAbs ≤ 36000 ∧
      cantAngleOffset (-cant) = -cantAngleOffset cant)

/-- R83 to R89: a rail sector is MASKED where the calibration masks it; else UNGAUGED where its template radius is 0; else
BLIND where its cell is empty; and else its margin, from the second least range, or the least of one, to the tolerated
radius, held within 1..16383, is negative in ENCROACH, within the warn band in NEAR, and beyond it in CLEAR. R82: the
template is that of straight line for radius 0 and beyond every band, and else the left or right one of the first band that
covers the radius. R80: the parameters are the zone's, or the defaults. R59: the zone is one that covers the station's low
edge. R90, R91: over the results of a pass, worst margin is the least margin of any sector and worst sector the lowest
sector having it, both absent where no sector has a margin; the counts are those of the classes. -/
def Obligations.SummaryNamesTheWorstSector : Prop :=
  (∀ (rs : List RailResult) (m : ClearanceSummary), m = ClearanceSummary.start.over 0 rs →
    m.encroach = rs.countP (fun r => r.cls == .encroach) ∧ m.near = rs.countP (fun r => r.cls == .near) ∧
    m.blind = rs.countP (fun r => r.cls == .blind) ∧
    (m.worstMargin = none ↔ ∀ r ∈ rs, r.margin = none) ∧ m.worstMargin.isSome = m.worstSector.isSome ∧
    (∀ w k, m.worstMargin = some w → m.worstSector = some k →
      (rs[k]?.bind RailResult.margin) = some w ∧
      (∀ j x, (rs[j]?.bind RailResult.margin) = some x → w ≤ x ∧ (x = w → k ≤ j)))) ∧
  (∀ (radius warn : Nat) (cell : RailCell) (tolerance margin : Int),
    margin = (if 2 ≤ cell.count then (cell.second : Int) else cell.least) - max 1 (min 16383 (radius + tolerance)) →
    assessSector true radius cell tolerance warn = { cls := .masked, margin := none } ∧
    assessSector false 0 cell tolerance warn = { cls := .ungauged, margin := none } ∧
    (radius ≠ 0 → cell.count = 0 → assessSector false radius cell tolerance warn = { cls := .blind, margin := none }) ∧
    (radius ≠ 0 → cell.count ≠ 0 →
      (margin < 0 → assessSector false radius cell tolerance warn = { cls := .encroach, margin := some margin }) ∧
      (0 ≤ margin → margin < warn →
        assessSector false radius cell tolerance warn = { cls := .near, margin := some margin }) ∧
      (0 ≤ margin → (warn : Int) ≤ margin →
        assessSector false radius cell tolerance warn = { cls := .clear, margin := some margin }))) ∧
  (∀ (p : PlanTables) (radius : Int),
    (radius = 0 ∨ (∀ b ∈ p.bands, b.limit < radius.natAbs) → p.templateFor radius = p.straight) ∧
    (∀ smaller band larger, p.bands = smaller ++ band :: larger → radius.natAbs ≤ band.limit →
      (∀ b ∈ smaller, b.limit < radius.natAbs) →
      (radius < 0 → p.templateFor radius = band.left) ∧ (0 < radius → p.templateFor radius = band.right)) ∧
    (∀ (k : Nat) (e : List Nat) (sector : Sector), p.templates[k]? = some e →
      p.templateRadius k sector = e.getD sector.val 0)) ∧
  (∀ p : PlanTables, p.parametersFor none = p.defaults ∧
    (∀ k z, p.zones[k]? = some z → p.parametersFor (some k) = z.parameters) ∧
    (∀ edge, (p.zoneAt edge = none ↔ ∀ z ∈ p.zones, edge < z.first ∨ z.past ≤ edge) ∧
      ∀ k, p.zoneAt edge = some k → ∃ z, p.zones[k]? = some z ∧ z.first ≤ edge ∧ edge < z.past))

/-- R105: a level cell counted fewer than Km times is NONE; one whose baseline radius is 0 or above 16383 is NO_BASE; any
other has the deviation of its mean, to the nearest whole millimetre and up at a half, from the baseline radius, and is
DEFORM where that is V or more in magnitude and STEADY otherwise. R106, R107: the deform count is the number of DEFORM
sectors, and the maximum deviation is the one of greatest magnitude, of the lowest sector on a tie; an EXCEPTIONS record
has an entry exactly for each sector that is ENCROACH, NEAR, BLIND or DEFORM, and a FULL record for every sector, in
ascending order of sector, each with that sector's own rail and level result, and no other entry. -/
def Obligations.EntriesAndDeformSummaryFollowTheSectors : Prop :=
  (∀ (km v radius : Nat) (cell : LevelCell),
    (cell.count < km → judgeLevel km v cell radius = { status := .none, deviation := none }) ∧
    (km ≤ cell.count → radius = 0 ∨ 16383 < radius →
      judgeLevel km v cell radius = { status := .noBase, deviation := none }) ∧
    (∀ mean : Nat, km ≤ cell.count → 0 < cell.count → radius ≠ 0 → radius ≤ 16383 →
      2 * mean * cell.count ≤ 2 * cell.sum + cell.count → 2 * cell.sum + cell.count < 2 * (mean + 1) * cell.count →
      judgeLevel km v cell radius =
        { status := if v ≤ ((mean : Int) - radius).natAbs then .deform else .steady,
          deviation := some ((mean : Int) - radius) })) ∧
  (∀ (ls : List LevelResult) (d : Nat × Option Int),
    (∀ l ∈ ls, l.status = .deform → l.deviation ≠ none) → d = deformSummary 0 none ls →
    d.1 = ls.countP (fun l => l.status == .deform) ∧
    (d.2 = none ↔ ∀ l ∈ ls, l.status ≠ .deform) ∧
    (∀ w, d.2 = some w → ∃ k : Nat,
      (∃ l, ls[k]? = some l ∧ l.status = .deform ∧ l.deviation = some w) ∧
      (∀ (j : Nat) (l : LevelResult) (x : Int), ls[j]? = some l → l.status = .deform → l.deviation = some x →
        x.natAbs ≤ w.natAbs ∧ (x.natAbs = w.natAbs → k ≤ j)))) ∧
  (∀ (mode : ReportMode) (rails : List RailResult) (levels : List LevelResult), rails.length = levels.length →
    ((chooseEntries mode 0 rails levels).map SectorEntry.sector).Pairwise (· < ·) ∧
    (∀ (k : Nat) (r : RailResult) (l : LevelResult), rails[k]? = some r → levels[k]? = some l →
      ({ sector := k, rail := r, level := l } ∈ chooseEntries mode 0 rails levels ↔
        (mode = .full ∨ r.cls = .encroach ∨ r.cls = .near ∨ r.cls = .blind ∨ l.status = .deform))) ∧
    (∀ e ∈ chooseEntries mode 0 rails levels, ∃ r l,
      rails[e.sector]? = some r ∧ levels[e.sector]? = some l ∧ e = { sector := e.sector, rail := r, level := l }) ∧
    (mode = .full → (chooseEntries mode 0 rails levels).length = rails.length))

/-- R149, R151, R152, R154, R157, R158, R159: NOTICE presents the pending kind of lowest number, its value the kind number,
with 128 added where the flag is set, above the argument; each kind has the number, the flag, the argument and the
particulars of the table: FAULT cause 1 for BUS and 2 for LINK, SHEET_STARVED argument 0, SHEET_READY the oldest sheet
number over the number of sheets left in the list after the read, and FAULT, LINK_FAULT and kinds 5 to 10 what was latched
at the raising, MORE the flag of kinds 5 to 10. It reads 0 exactly when none is pending, and the interrupt line is asserted
exactly while the enable is set and NOTICE does not read NONE. An alert, pending with neither FAULT nor LINK_FAULT, is
presented with the low 24 bits of its station number and DISPLACED; its particulars pack the worst margin, -32768 when
absent, over the worst sector or the deform count, at most 255, over the maximum deviation held within -127..+127, -128
when absent. -/
def Obligations.NoticePresentsTheHighestPriority : Prop :=
  ([NoticeKind.fault, .linkFault, .alert, .sheetStarved, .markerMismatch, .cantFault, .setupFault, .planTaken, .reversal,
      .stopped, .sheetReady].map NoticeKind.number = [1, 2, 3, 4, 5, 6, 7, 8, 9, 10, 11]) ∧
  (∀ (n : NoticeUnit) (latched : NoticeKind → NoticeLatch → Notice),
    (∀ k l, latched k l = { kind := k, flag := l.more, argument := l.argument, particulars := l.particulars }) →
    n.presented =
      match n.fault with
      | some l => some { kind := .fault, flag := false, argument := if l.cause = .bus then 1 else 2,
                         particulars := l.particulars }
      | none => match n.linkFault with
      | some l => some { kind := .linkFault, flag := false, argument := l.argument, particulars := l.particulars }
      | none => match n.alerts with
      | a :: _ => some { kind := .alert, flag := n.displaced, argument := BitVec.ofInt 24 a.station,
                         particulars := a.packed }
      | [] => match n.starved with
      | some waiting => some { kind := .sheetStarved, flag := false, argument := 0, particulars := waiting }
      | none => match n.markerMismatch with
      | some l => some (latched .markerMismatch l)
      | none => match n.cantFault with
      | some l => some (latched .cantFault l)
      | none => match n.setupFault with
      | some l => some (latched .setupFault l)
      | none => match n.planTaken with
      | some l => some (latched .planTaken l)
      | none => match n.reversal with
      | some l => some (latched .reversal l)
      | none => match n.stopped with
      | some l => some (latched .stopped l)
      | none => match n.unannounced with
      | k :: rest => some { kind := .sheetReady, flag := false, argument := BitVec.ofNat 24 k,
                            particulars := BitVec.ofNat 32 rest.length }
      | [] => none) ∧
  (∀ s : State,
    (∀ x, s.notices.presented = some x →
      (∀ y ∈ s.notices.pendingNotices, x.kind.number ≤ y.kind.number) ∧
      s.notices.value.toNat = (x.kind.number + if x.flag then 128 else 0) * 16777216 + x.argument.toNat) ∧
    (∀ a rest, s.notices.fault = none → s.notices.linkFault = none → s.notices.alerts = a :: rest →
      s.notices.presented = some { kind := .alert, flag := s.notices.displaced,
                                   argument := BitVec.ofInt 24 a.station, particulars := a.packed }) ∧
    (s.notices.value = 0 ↔
      (s.notices.fault = none ∧ s.notices.linkFault = none ∧ s.notices.alerts = [] ∧ s.notices.starved = none ∧
        s.notices.markerMismatch = none ∧ s.notices.cantFault = none ∧ s.notices.setupFault = none ∧
        s.notices.planTaken = none ∧ s.notices.reversal = none ∧ s.notices.stopped = none ∧
        s.notices.unannounced = [])) ∧
    (s.interruptLine = true ↔ s.control.interruptEnable = true ∧ s.notices.value ≠ 0)) ∧
  (∀ a : Alert,
    (∀ m, a.worstMargin = some m → -32768 < m → m ≤ 32767 → (a.packed.extractLsb' 16 16).toInt = m) ∧
    (a.worstMargin = none → (a.packed.extractLsb' 16 16).toInt = -32768) ∧
    (∀ k, a.kind = .encroach → a.worstSector = some k → k < 256 → (a.packed.extractLsb' 8 8).toNat = k) ∧
    (a.kind = .deform → (a.packed.extractLsb' 8 8).toNat = min 255 a.deformCount) ∧
    (∀ d, a.maxDeviation = some d → (a.packed.extractLsb' 0 8).toInt = max (-127) (min 127 d)) ∧
    (a.maxDeviation = none → (a.packed.extractLsb' 0 8).toInt = -128))

/-- R155, R156: an ENCROACH alert is more severe than any DEFORM one, of two ENCROACH alerts the one with the lower worst
margin, of two DEFORM alerts the one whose maximum deviation is greater in magnitude. An alert joins the tail of a list of
fewer than 16 entries. Offered to a full list it displaces the least severe entry, the newest of several, where it is more
severe than that one, and is dropped otherwise; DISPLACED is set in either case. -/
def Obligations.AlertOfferKeepsTheMostSevere : Prop :=
  (∀ (a b : Alert) (x y : Int), a.kind = .encroach → a.worstMargin = some x →
    (b.kind = .deform → a.moreSevere b = true ∧ b.moreSevere a = false) ∧
    (b.kind = .encroach → b.worstMargin = some y → (a.moreSevere b = true ↔ x < y))) ∧
  (∀ (a b : Alert) (x y : Int), a.kind = .deform → a.maxDeviation = some x → b.kind = .deform →
    b.maxDeviation = some y → (a.moreSevere b = true ↔ y.natAbs < x.natAbs)) ∧
  ∀ (alerts : List Alert) (displaced : Bool) (a : Alert),
    (alerts.length < 16 → offerAlertTo alerts displaced a = (alerts ++ [a], displaced)) ∧
    (∀ (k : Nat) (least : Alert), alerts.length = 16 → alerts[k]? = some least →
      (∀ (j : Nat) (b : Alert), alerts[j]? = some b →
        least.moreSevere b = false ∧ (k < j → b.moreSevere least = true)) →
      offerAlertTo alerts displaced a =
        if a.moreSevere least = true then (alerts.eraseIdx k ++ [a], true) else (alerts, true))

end
end

