-- ==== Sys2Proof/Laws/Frames.lean ====
section
/-! SUPPORT. The frame of every shared operation: the parts of the state it leaves as they were. Later proofs cite these
and do not unfold the operation for what it does not touch. -/
namespace Sys2Proof.Machine

@[simp] theorem State.setBank_frame (s : State) (i : BankId) (b : Bank) :
    (s.setBank i b).sweep = s.sweep ∧ (s.setBank i b).chainage = s.chainage ∧ (s.setBank i b).cant = s.cant ∧
    (s.setBank i b).evaluator = s.evaluator ∧ (s.setBank i b).comparator = s.comparator ∧
    (s.setBank i b).loader = s.loader ∧ (s.setBank i b).sheets = s.sheets ∧ (s.setBank i b).notices = s.notices ∧
    (s.setBank i b).control = s.control ∧ (s.setBank i b).port = s.port ∧ (s.setBank i b).memory = s.memory ∧
    (s.setBank i b).lines = s.lines ∧ (s.setBank i b).sent = s.sent ∧ (s.setBank i b).hostRead = s.hostRead ∧
    (s.setBank i b).positionDue = s.positionDue ∧ (s.setBank i b).freeIndex = s.freeIndex ∧
    (s.setBank i b).pending = s.pending := by
  simp only [State.setBank]
  (repeat' split) <;> simp

@[simp] theorem State.setBuffer_frame (s : State) (i : BufferId) (x : RevolutionBuffer) :
    (s.setBuffer i x).chainage = s.chainage ∧ (s.setBuffer i x).cant = s.cant ∧
    (s.setBuffer i x).accumulator = s.accumulator ∧ (s.setBuffer i x).evaluator = s.evaluator ∧
    (s.setBuffer i x).comparator = s.comparator ∧ (s.setBuffer i x).loader = s.loader ∧
    (s.setBuffer i x).sheets = s.sheets ∧ (s.setBuffer i x).notices = s.notices ∧
    (s.setBuffer i x).control = s.control ∧ (s.setBuffer i x).port = s.port ∧ (s.setBuffer i x).memory = s.memory ∧
    (s.setBuffer i x).lines = s.lines ∧ (s.setBuffer i x).sent = s.sent ∧ (s.setBuffer i x).hostRead = s.hostRead ∧
    (s.setBuffer i x).positionDue = s.positionDue ∧ (s.setBuffer i x).freeIndex = s.freeIndex ∧
    (s.setBuffer i x).pending = s.pending := by
  simp only [State.setBuffer]
  (repeat' split) <;> simp

@[simp] theorem State.freeBuffer_frame (s : State) (i : BufferId) :
    (s.freeBuffer i).chainage = s.chainage ∧ (s.freeBuffer i).cant = s.cant ∧
    (s.freeBuffer i).accumulator = s.accumulator ∧ (s.freeBuffer i).evaluator = s.evaluator ∧
    (s.freeBuffer i).comparator = s.comparator ∧ (s.freeBuffer i).loader = s.loader ∧
    (s.freeBuffer i).sheets = s.sheets ∧ (s.freeBuffer i).notices = s.notices ∧
    (s.freeBuffer i).control = s.control ∧ (s.freeBuffer i).port = s.port ∧ (s.freeBuffer i).memory = s.memory ∧
    (s.freeBuffer i).lines = s.lines ∧ (s.freeBuffer i).sent = s.sent ∧ (s.freeBuffer i).hostRead = s.hostRead ∧
    (s.freeBuffer i).positionDue = s.positionDue ∧ (s.freeBuffer i).freeIndex = s.freeIndex ∧
    (s.freeBuffer i).pending = s.pending := by
  simp only [State.freeBuffer]
  (repeat' split) <;> simp

@[simp] theorem State.setPlanSet_frame (s : State) (i : SetId) (p : PlanSet) :
    (s.setPlanSet i p).sweep = s.sweep ∧ (s.setPlanSet i p).chainage = s.chainage ∧
    (s.setPlanSet i p).cant = s.cant ∧ (s.setPlanSet i p).accumulator = s.accumulator ∧
    (s.setPlanSet i p).evaluator = s.evaluator ∧ (s.setPlanSet i p).comparator = s.comparator ∧
    (s.setPlanSet i p).sheets = s.sheets ∧ (s.setPlanSet i p).notices = s.notices ∧
    (s.setPlanSet i p).control = s.control ∧ (s.setPlanSet i p).port = s.port ∧
    (s.setPlanSet i p).memory = s.memory ∧ (s.setPlanSet i p).lines = s.lines ∧ (s.setPlanSet i p).sent = s.sent ∧
    (s.setPlanSet i p).hostRead = s.hostRead ∧ (s.setPlanSet i p).positionDue = s.positionDue ∧
    (s.setPlanSet i p).freeIndex = s.freeIndex ∧ (s.setPlanSet i p).pending = s.pending := by
  simp only [State.setPlanSet]
  (repeat' split) <;> simp

@[simp] theorem State.raiseMarkerMismatch_frame (s : State) (a : BitVec 24) (p : Word) :
    (s.raiseMarkerMismatch a p).sweep = s.sweep ∧ (s.raiseMarkerMismatch a p).chainage = s.chainage ∧
    (s.raiseMarkerMismatch a p).cant = s.cant ∧ (s.raiseMarkerMismatch a p).accumulator = s.accumulator ∧
    (s.raiseMarkerMismatch a p).evaluator = s.evaluator ∧ (s.raiseMarkerMismatch a p).comparator = s.comparator ∧
    (s.raiseMarkerMismatch a p).loader = s.loader ∧ (s.raiseMarkerMismatch a p).sheets = s.sheets ∧
    (s.raiseMarkerMismatch a p).control = s.control ∧ (s.raiseMarkerMismatch a p).port = s.port ∧
    (s.raiseMarkerMismatch a p).memory = s.memory ∧ (s.raiseMarkerMismatch a p).lines = s.lines ∧
    (s.raiseMarkerMismatch a p).sent = s.sent ∧ (s.raiseMarkerMismatch a p).hostRead = s.hostRead ∧
    (s.raiseMarkerMismatch a p).positionDue = s.positionDue ∧ (s.raiseMarkerMismatch a p).freeIndex = s.freeIndex ∧
    (s.raiseMarkerMismatch a p).pending = s.pending := by
  simp only [State.raiseMarkerMismatch]
  (repeat' split) <;> simp

@[simp] theorem State.raiseCantFault_frame (s : State) (a : BitVec 24) (p : Word) :
    (s.raiseCantFault a p).sweep = s.sweep ∧ (s.raiseCantFault a p).chainage = s.chainage ∧
    (s.raiseCantFault a p).cant = s.cant ∧ (s.raiseCantFault a p).accumulator = s.accumulator ∧
    (s.raiseCantFault a p).evaluator = s.evaluator ∧ (s.raiseCantFault a p).comparator = s.comparator ∧
    (s.raiseCantFault a p).loader = s.loader ∧ (s.raiseCantFault a p).sheets = s.sheets ∧
    (s.raiseCantFault a p).control = s.control ∧ (s.raiseCantFault a p).port = s.port ∧
    (s.raiseCantFault a p).memory = s.memory ∧ (s.raiseCantFault a p).lines = s.lines ∧
    (s.raiseCantFault a p).sent = s.sent ∧ (s.raiseCantFault a p).hostRead = s.hostRead ∧
    (s.raiseCantFault a p).positionDue = s.positionDue ∧ (s.raiseCantFault a p).freeIndex = s.freeIndex ∧
    (s.raiseCantFault a p).pending = s.pending := by
  simp only [State.raiseCantFault]
  (repeat' split) <;> simp

@[simp] theorem State.raiseSetupFault_frame (s : State) (r : SetupRefusal) :
    (s.raiseSetupFault r).sweep = s.sweep ∧ (s.raiseSetupFault r).chainage = s.chainage ∧
    (s.raiseSetupFault r).cant = s.cant ∧ (s.raiseSetupFault r).accumulator = s.accumulator ∧
    (s.raiseSetupFault r).evaluator = s.evaluator ∧ (s.raiseSetupFault r).comparator = s.comparator ∧
    (s.raiseSetupFault r).loader = s.loader ∧ (s.raiseSetupFault r).sheets = s.sheets ∧
    (s.raiseSetupFault r).control = s.control ∧ (s.raiseSetupFault r).port = s.port ∧
    (s.raiseSetupFault r).memory = s.memory ∧ (s.raiseSetupFault r).lines = s.lines ∧
    (s.raiseSetupFault r).sent = s.sent ∧ (s.raiseSetupFault r).hostRead = s.hostRead ∧
    (s.raiseSetupFault r).positionDue = s.positionDue ∧ (s.raiseSetupFault r).freeIndex = s.freeIndex ∧
    (s.raiseSetupFault r).pending = s.pending := by
  simp only [State.raiseSetupFault]
  (repeat' split) <;> simp

@[simp] theorem State.raisePlanTaken_frame (s : State) (a : BitVec 24) (p : Word) :
    (s.raisePlanTaken a p).sweep = s.sweep ∧ (s.raisePlanTaken a p).chainage = s.chainage ∧
    (s.raisePlanTaken a p).cant = s.cant ∧ (s.raisePlanTaken a p).accumulator = s.accumulator ∧
    (s.raisePlanTaken a p).evaluator = s.evaluator ∧ (s.raisePlanTaken a p).comparator = s.comparator ∧
    (s.raisePlanTaken a p).loader = s.loader ∧ (s.raisePlanTaken a p).sheets = s.sheets ∧
    (s.raisePlanTaken a p).control = s.control ∧ (s.raisePlanTaken a p).port = s.port ∧
    (s.raisePlanTaken a p).memory = s.memory ∧ (s.raisePlanTaken a p).lines = s.lines ∧
    (s.raisePlanTaken a p).sent = s.sent ∧ (s.raisePlanTaken a p).hostRead = s.hostRead ∧
    (s.raisePlanTaken a p).positionDue = s.positionDue ∧ (s.raisePlanTaken a p).freeIndex = s.freeIndex ∧
    (s.raisePlanTaken a p).pending = s.pending := by
  simp only [State.raisePlanTaken]
  (repeat' split) <;> simp

@[simp] theorem State.raiseReversal_frame (s : State) (a : BitVec 24) (p : Word) :
    (s.raiseReversal a p).sweep = s.sweep ∧ (s.raiseReversal a p).chainage = s.chainage ∧
    (s.raiseReversal a p).cant = s.cant ∧ (s.raiseReversal a p).accumulator = s.accumulator ∧
    (s.raiseReversal a p).evaluator = s.evaluator ∧ (s.raiseReversal a p).comparator = s.comparator ∧
    (s.raiseReversal a p).loader = s.loader ∧ (s.raiseReversal a p).sheets = s.sheets ∧
    (s.raiseReversal a p).control = s.control ∧ (s.raiseReversal a p).port = s.port ∧
    (s.raiseReversal a p).memory = s.memory ∧ (s.raiseReversal a p).lines = s.lines ∧
    (s.raiseReversal a p).sent = s.sent ∧ (s.raiseReversal a p).hostRead = s.hostRead ∧
    (s.raiseReversal a p).positionDue = s.positionDue ∧ (s.raiseReversal a p).freeIndex = s.freeIndex ∧
    (s.raiseReversal a p).pending = s.pending := by
  simp only [State.raiseReversal]
  (repeat' split) <;> simp

@[simp] theorem State.raiseStopped_frame (s : State) (a : BitVec 24) (p : Word) :
    (s.raiseStopped a p).sweep = s.sweep ∧ (s.raiseStopped a p).chainage = s.chainage ∧
    (s.raiseStopped a p).cant = s.cant ∧ (s.raiseStopped a p).accumulator = s.accumulator ∧
    (s.raiseStopped a p).evaluator = s.evaluator ∧ (s.raiseStopped a p).comparator = s.comparator ∧
    (s.raiseStopped a p).loader = s.loader ∧ (s.raiseStopped a p).sheets = s.sheets ∧
    (s.raiseStopped a p).control = s.control ∧ (s.raiseStopped a p).port = s.port ∧
    (s.raiseStopped a p).memory = s.memory ∧ (s.raiseStopped a p).lines = s.lines ∧
    (s.raiseStopped a p).sent = s.sent ∧ (s.raiseStopped a p).hostRead = s.hostRead ∧
    (s.raiseStopped a p).positionDue = s.positionDue ∧ (s.raiseStopped a p).freeIndex = s.freeIndex ∧
    (s.raiseStopped a p).pending = s.pending := by
  simp only [State.raiseStopped]
  (repeat' split) <;> simp

@[simp] theorem State.raiseFault_frame (s : State) (c : FaultCause) (p : Word) :
    (s.raiseFault c p).sweep = s.sweep ∧ (s.raiseFault c p).chainage = s.chainage ∧
    (s.raiseFault c p).cant = s.cant ∧ (s.raiseFault c p).accumulator = s.accumulator ∧
    (s.raiseFault c p).evaluator = s.evaluator ∧ (s.raiseFault c p).comparator = s.comparator ∧
    (s.raiseFault c p).loader = s.loader ∧ (s.raiseFault c p).sheets = s.sheets ∧
    (s.raiseFault c p).control = s.control ∧ (s.raiseFault c p).port = s.port ∧
    (s.raiseFault c p).memory = s.memory ∧ (s.raiseFault c p).lines = s.lines ∧ (s.raiseFault c p).sent = s.sent ∧
    (s.raiseFault c p).hostRead = s.hostRead ∧ (s.raiseFault c p).positionDue = s.positionDue ∧
    (s.raiseFault c p).freeIndex = s.freeIndex ∧ (s.raiseFault c p).pending = s.pending := by
  simp only [State.raiseFault]
  (repeat' split) <;> simp

@[simp] theorem State.raiseLinkFault_frame (s : State) (a : BitVec 24) (p : Word) :
    (s.raiseLinkFault a p).sweep = s.sweep ∧ (s.raiseLinkFault a p).chainage = s.chainage ∧
    (s.raiseLinkFault a p).cant = s.cant ∧ (s.raiseLinkFault a p).accumulator = s.accumulator ∧
    (s.raiseLinkFault a p).evaluator = s.evaluator ∧ (s.raiseLinkFault a p).comparator = s.comparator ∧
    (s.raiseLinkFault a p).loader = s.loader ∧ (s.raiseLinkFault a p).sheets = s.sheets ∧
    (s.raiseLinkFault a p).control = s.control ∧ (s.raiseLinkFault a p).port = s.port ∧
    (s.raiseLinkFault a p).memory = s.memory ∧ (s.raiseLinkFault a p).lines = s.lines ∧
    (s.raiseLinkFault a p).sent = s.sent ∧ (s.raiseLinkFault a p).hostRead = s.hostRead ∧
    (s.raiseLinkFault a p).positionDue = s.positionDue ∧ (s.raiseLinkFault a p).freeIndex = s.freeIndex ∧
    (s.raiseLinkFault a p).pending = s.pending := by
  simp only [State.raiseLinkFault]
  (repeat' split) <;> simp

@[simp] theorem State.raiseStarved_frame (s : State) :
    s.raiseStarved.sweep = s.sweep ∧ s.raiseStarved.chainage = s.chainage ∧ s.raiseStarved.cant = s.cant ∧
    s.raiseStarved.accumulator = s.accumulator ∧ s.raiseStarved.evaluator = s.evaluator ∧
    s.raiseStarved.comparator = s.comparator ∧ s.raiseStarved.loader = s.loader ∧
    s.raiseStarved.sheets = s.sheets ∧ s.raiseStarved.control = s.control ∧ s.raiseStarved.port = s.port ∧
    s.raiseStarved.memory = s.memory ∧ s.raiseStarved.lines = s.lines ∧ s.raiseStarved.sent = s.sent ∧
    s.raiseStarved.hostRead = s.hostRead ∧ s.raiseStarved.positionDue = s.positionDue ∧
    s.raiseStarved.freeIndex = s.freeIndex ∧ s.raiseStarved.pending = s.pending := by
  simp only [State.raiseStarved]
  (repeat' split) <;> simp

@[simp] theorem State.offerAlert_frame (s : State) (a : Alert) :
    (s.offerAlert a).sweep = s.sweep ∧ (s.offerAlert a).chainage = s.chainage ∧ (s.offerAlert a).cant = s.cant ∧
    (s.offerAlert a).accumulator = s.accumulator ∧ (s.offerAlert a).evaluator = s.evaluator ∧
    (s.offerAlert a).comparator = s.comparator ∧ (s.offerAlert a).loader = s.loader ∧
    (s.offerAlert a).sheets = s.sheets ∧ (s.offerAlert a).control = s.control ∧ (s.offerAlert a).port = s.port ∧
    (s.offerAlert a).memory = s.memory ∧ (s.offerAlert a).lines = s.lines ∧ (s.offerAlert a).sent = s.sent ∧
    (s.offerAlert a).hostRead = s.hostRead ∧ (s.offerAlert a).positionDue = s.positionDue ∧
    (s.offerAlert a).freeIndex = s.freeIndex ∧ (s.offerAlert a).pending = s.pending := by
  simp only [State.offerAlert]
  (repeat' split) <;> simp

@[simp] theorem State.place_frame (s : State) (r : Requester) (bs : List Burst) :
    (s.place r bs).sweep = s.sweep ∧ (s.place r bs).chainage = s.chainage ∧ (s.place r bs).cant = s.cant ∧
    (s.place r bs).accumulator = s.accumulator ∧ (s.place r bs).evaluator = s.evaluator ∧
    (s.place r bs).comparator = s.comparator ∧ (s.place r bs).loader = s.loader ∧
    (s.place r bs).sheets = s.sheets ∧ (s.place r bs).notices = s.notices ∧ (s.place r bs).control = s.control ∧
    (s.place r bs).memory = s.memory ∧ (s.place r bs).lines = s.lines ∧ (s.place r bs).sent = s.sent ∧
    (s.place r bs).hostRead = s.hostRead ∧ (s.place r bs).positionDue = s.positionDue ∧
    (s.place r bs).freeIndex = s.freeIndex ∧ (s.place r bs).pending = s.pending := by
  simp only [State.place]
  (repeat' split) <;> simp

@[simp] theorem State.placeAtWriterHead_frame (s : State) (b : Burst) :
    (s.placeAtWriterHead b).sweep = s.sweep ∧ (s.placeAtWriterHead b).chainage = s.chainage ∧
    (s.placeAtWriterHead b).cant = s.cant ∧ (s.placeAtWriterHead b).accumulator = s.accumulator ∧
    (s.placeAtWriterHead b).evaluator = s.evaluator ∧ (s.placeAtWriterHead b).comparator = s.comparator ∧
    (s.placeAtWriterHead b).loader = s.loader ∧ (s.placeAtWriterHead b).sheets = s.sheets ∧
    (s.placeAtWriterHead b).notices = s.notices ∧ (s.placeAtWriterHead b).control = s.control ∧
    (s.placeAtWriterHead b).memory = s.memory ∧ (s.placeAtWriterHead b).lines = s.lines ∧
    (s.placeAtWriterHead b).sent = s.sent ∧ (s.placeAtWriterHead b).hostRead = s.hostRead ∧
    (s.placeAtWriterHead b).positionDue = s.positionDue ∧ (s.placeAtWriterHead b).freeIndex = s.freeIndex ∧
    (s.placeAtWriterHead b).pending = s.pending := by
  simp only [State.placeAtWriterHead]
  (repeat' split) <;> simp

@[simp] theorem State.abandonGrant_frame (s : State) (r : Requester) :
    (s.abandonGrant r).sweep = s.sweep ∧ (s.abandonGrant r).chainage = s.chainage ∧
    (s.abandonGrant r).cant = s.cant ∧ (s.abandonGrant r).accumulator = s.accumulator ∧
    (s.abandonGrant r).evaluator = s.evaluator ∧ (s.abandonGrant r).comparator = s.comparator ∧
    (s.abandonGrant r).loader = s.loader ∧ (s.abandonGrant r).sheets = s.sheets ∧
    (s.abandonGrant r).notices = s.notices ∧ (s.abandonGrant r).control = s.control ∧
    (s.abandonGrant r).memory = s.memory ∧ (s.abandonGrant r).lines = s.lines ∧ (s.abandonGrant r).sent = s.sent ∧
    (s.abandonGrant r).hostRead = s.hostRead ∧ (s.abandonGrant r).positionDue = s.positionDue ∧
    (s.abandonGrant r).freeIndex = s.freeIndex ∧ (s.abandonGrant r).pending = s.pending := by
  simp only [State.abandonGrant]
  (repeat' split) <;> simp

@[simp] theorem State.arbitrate_frame (s : State) :
    s.arbitrate.sweep = s.sweep ∧ s.arbitrate.chainage = s.chainage ∧ s.arbitrate.cant = s.cant ∧
    s.arbitrate.accumulator = s.accumulator ∧ s.arbitrate.evaluator = s.evaluator ∧
    s.arbitrate.comparator = s.comparator ∧ s.arbitrate.loader = s.loader ∧ s.arbitrate.sheets = s.sheets ∧
    s.arbitrate.notices = s.notices ∧ s.arbitrate.control = s.control ∧ s.arbitrate.memory = s.memory ∧
    s.arbitrate.lines = s.lines ∧ s.arbitrate.sent = s.sent ∧ s.arbitrate.hostRead = s.hostRead ∧
    s.arbitrate.positionDue = s.positionDue ∧ s.arbitrate.freeIndex = s.freeIndex ∧
    s.arbitrate.pending = s.pending := by
  simp only [State.arbitrate]
  (repeat' split) <;> simp

@[simp] theorem State.cutGrant_frame (s : State) :
    s.cutGrant.sweep = s.sweep ∧ s.cutGrant.chainage = s.chainage ∧ s.cutGrant.cant = s.cant ∧
    s.cutGrant.accumulator = s.accumulator ∧ s.cutGrant.evaluator = s.evaluator ∧
    s.cutGrant.comparator = s.comparator ∧ s.cutGrant.loader = s.loader ∧ s.cutGrant.sheets = s.sheets ∧
    s.cutGrant.notices = s.notices ∧ s.cutGrant.control = s.control ∧ s.cutGrant.lines = s.lines ∧
    s.cutGrant.sent = s.sent ∧ s.cutGrant.hostRead = s.hostRead ∧ s.cutGrant.positionDue = s.positionDue ∧
    s.cutGrant.pending = s.pending := by
  simp only [State.cutGrant]
  (repeat' split) <;> simp

@[simp] theorem State.failGrant_frame (s : State) :
    s.failGrant.sweep = s.sweep ∧ s.failGrant.chainage = s.chainage ∧ s.failGrant.cant = s.cant ∧
    s.failGrant.accumulator = s.accumulator ∧ s.failGrant.evaluator = s.evaluator ∧
    s.failGrant.comparator = s.comparator ∧ s.failGrant.loader = s.loader ∧ s.failGrant.sheets = s.sheets ∧
    s.failGrant.notices = s.notices ∧ s.failGrant.control = s.control ∧ s.failGrant.lines = s.lines ∧
    s.failGrant.sent = s.sent ∧ s.failGrant.hostRead = s.hostRead ∧ s.failGrant.positionDue = s.positionDue ∧
    s.failGrant.pending = s.pending := by
  simp only [State.failGrant]
  (repeat' split) <;> simp

@[simp] theorem State.callPosition_frame (s : State) :
    s.callPosition.sweep = s.sweep ∧ s.callPosition.chainage = s.chainage ∧ s.callPosition.cant = s.cant ∧
    s.callPosition.accumulator = s.accumulator ∧ s.callPosition.evaluator = s.evaluator ∧
    s.callPosition.comparator = s.comparator ∧ s.callPosition.loader = s.loader ∧
    s.callPosition.sheets = s.sheets ∧ s.callPosition.notices = s.notices ∧ s.callPosition.control = s.control ∧
    s.callPosition.port = s.port ∧ s.callPosition.memory = s.memory ∧ s.callPosition.lines = s.lines ∧
    s.callPosition.sent = s.sent ∧ s.callPosition.hostRead = s.hostRead ∧ s.callPosition.freeIndex = s.freeIndex ∧
    s.callPosition.pending = s.pending := by
  simp only [State.callPosition]
  (repeat' split) <;> simp

@[simp] theorem State.flushPosition_frame (s : State) :
    s.flushPosition.sweep = s.sweep ∧ s.flushPosition.chainage = s.chainage ∧ s.flushPosition.cant = s.cant ∧
    s.flushPosition.accumulator = s.accumulator ∧ s.flushPosition.evaluator = s.evaluator ∧
    s.flushPosition.comparator = s.comparator ∧ s.flushPosition.loader = s.loader ∧
    s.flushPosition.sheets = s.sheets ∧ s.flushPosition.notices = s.notices ∧ s.flushPosition.control = s.control ∧
    s.flushPosition.memory = s.memory ∧ s.flushPosition.lines = s.lines ∧ s.flushPosition.sent = s.sent ∧
    s.flushPosition.hostRead = s.hostRead ∧ s.flushPosition.freeIndex = s.freeIndex ∧
    s.flushPosition.pending = s.pending := by
  simp only [State.flushPosition]
  (repeat' split) <;> simp

@[simp] theorem State.takeSheet_frame (s : State) :
    s.takeSheet.sweep = s.sweep ∧ s.takeSheet.chainage = s.chainage ∧ s.takeSheet.cant = s.cant ∧
    s.takeSheet.accumulator = s.accumulator ∧ s.takeSheet.evaluator = s.evaluator ∧
    s.takeSheet.comparator = s.comparator ∧ s.takeSheet.loader = s.loader ∧ s.takeSheet.control = s.control ∧
    s.takeSheet.memory = s.memory ∧ s.takeSheet.lines = s.lines ∧ s.takeSheet.sent = s.sent ∧
    s.takeSheet.hostRead = s.hostRead ∧ s.takeSheet.positionDue = s.positionDue ∧
    s.takeSheet.freeIndex = s.freeIndex ∧ s.takeSheet.pending = s.pending := by
  simp only [State.takeSheet]
  (repeat' split) <;> simp

@[simp] theorem State.beginRecord_frame (s : State) :
    s.beginRecord.sweep = s.sweep ∧ s.beginRecord.chainage = s.chainage ∧ s.beginRecord.cant = s.cant ∧
    s.beginRecord.accumulator = s.accumulator ∧ s.beginRecord.evaluator = s.evaluator ∧
    s.beginRecord.comparator = s.comparator ∧ s.beginRecord.loader = s.loader ∧ s.beginRecord.notices = s.notices ∧
    s.beginRecord.control = s.control ∧ s.beginRecord.memory = s.memory ∧ s.beginRecord.lines = s.lines ∧
    s.beginRecord.sent = s.sent ∧ s.beginRecord.hostRead = s.hostRead ∧ s.beginRecord.positionDue = s.positionDue ∧
    s.beginRecord.freeIndex = s.freeIndex ∧ s.beginRecord.pending = s.pending := by
  simp only [State.beginRecord]
  (repeat' split) <;> simp

@[simp] theorem State.beginClose_frame (s : State) :
    s.beginClose.sweep = s.sweep ∧ s.beginClose.chainage = s.chainage ∧ s.beginClose.cant = s.cant ∧
    s.beginClose.accumulator = s.accumulator ∧ s.beginClose.evaluator = s.evaluator ∧
    s.beginClose.comparator = s.comparator ∧ s.beginClose.loader = s.loader ∧ s.beginClose.notices = s.notices ∧
    s.beginClose.control = s.control ∧ s.beginClose.memory = s.memory ∧ s.beginClose.lines = s.lines ∧
    s.beginClose.sent = s.sent ∧ s.beginClose.hostRead = s.hostRead ∧ s.beginClose.positionDue = s.positionDue ∧
    s.beginClose.freeIndex = s.freeIndex ∧ s.beginClose.pending = s.pending := by
  simp only [State.beginClose]
  (repeat' split) <;> simp

@[simp] theorem State.lookAtHead_frame (s : State) :
    s.lookAtHead.sweep = s.sweep ∧ s.lookAtHead.chainage = s.chainage ∧ s.lookAtHead.cant = s.cant ∧
    s.lookAtHead.accumulator = s.accumulator ∧ s.lookAtHead.evaluator = s.evaluator ∧
    s.lookAtHead.comparator = s.comparator ∧ s.lookAtHead.loader = s.loader ∧ s.lookAtHead.control = s.control ∧
    s.lookAtHead.memory = s.memory ∧ s.lookAtHead.lines = s.lines ∧ s.lookAtHead.sent = s.sent ∧
    s.lookAtHead.hostRead = s.hostRead ∧ s.lookAtHead.positionDue = s.positionDue ∧
    s.lookAtHead.freeIndex = s.freeIndex ∧ s.lookAtHead.pending = s.pending := by
  simp only [State.lookAtHead]
  (repeat' split) <;> simp

@[simp] theorem State.enqueue_frame (s : State) (r : Record) :
    (s.enqueue r).sweep = s.sweep ∧ (s.enqueue r).chainage = s.chainage ∧ (s.enqueue r).cant = s.cant ∧
    (s.enqueue r).accumulator = s.accumulator ∧ (s.enqueue r).evaluator = s.evaluator ∧
    (s.enqueue r).comparator = s.comparator ∧ (s.enqueue r).loader = s.loader ∧ (s.enqueue r).notices = s.notices ∧
    (s.enqueue r).control = s.control ∧ (s.enqueue r).port = s.port ∧ (s.enqueue r).memory = s.memory ∧
    (s.enqueue r).lines = s.lines ∧ (s.enqueue r).sent = s.sent ∧ (s.enqueue r).hostRead = s.hostRead ∧
    (s.enqueue r).freeIndex = s.freeIndex ∧ (s.enqueue r).pending = s.pending := by
  simp only [State.enqueue]
  (repeat' split) <;> simp

@[simp] theorem State.admit_frame (s : State) (r : Record) :
    (s.admitRecord r).sweep = s.sweep ∧ (s.admitRecord r).chainage = s.chainage ∧ (s.admitRecord r).cant = s.cant ∧
    (s.admitRecord r).accumulator = s.accumulator ∧ (s.admitRecord r).evaluator = s.evaluator ∧
    (s.admitRecord r).comparator = s.comparator ∧ (s.admitRecord r).loader = s.loader ∧ (s.admitRecord r).control = s.control ∧
    (s.admitRecord r).memory = s.memory ∧ (s.admitRecord r).lines = s.lines ∧ (s.admitRecord r).sent = s.sent ∧
    (s.admitRecord r).hostRead = s.hostRead ∧ (s.admitRecord r).freeIndex = s.freeIndex ∧ (s.admitRecord r).pending = s.pending := by
  simp only [State.admitRecord]
  (repeat' split) <;> simp

@[simp] theorem State.offer_frame (s : State) (r : Record) :
    (s.offer r).sweep = s.sweep ∧ (s.offer r).chainage = s.chainage ∧ (s.offer r).cant = s.cant ∧
    (s.offer r).accumulator = s.accumulator ∧ (s.offer r).evaluator = s.evaluator ∧
    (s.offer r).comparator = s.comparator ∧ (s.offer r).loader = s.loader ∧ (s.offer r).control = s.control ∧
    (s.offer r).memory = s.memory ∧ (s.offer r).lines = s.lines ∧ (s.offer r).sent = s.sent ∧
    (s.offer r).hostRead = s.hostRead ∧ (s.offer r).freeIndex = s.freeIndex ∧ (s.offer r).pending = s.pending := by
  simp only [State.offer]
  (repeat' split) <;> simp

@[simp] theorem State.offerEnd_frame (s : State) (m : StopMode) (n : Nat) :
    (s.offerEnd m n).sweep = s.sweep ∧ (s.offerEnd m n).chainage = s.chainage ∧ (s.offerEnd m n).cant = s.cant ∧
    (s.offerEnd m n).accumulator = s.accumulator ∧ (s.offerEnd m n).evaluator = s.evaluator ∧
    (s.offerEnd m n).comparator = s.comparator ∧ (s.offerEnd m n).loader = s.loader ∧
    (s.offerEnd m n).control = s.control ∧ (s.offerEnd m n).memory = s.memory ∧ (s.offerEnd m n).lines = s.lines ∧
    (s.offerEnd m n).sent = s.sent ∧ (s.offerEnd m n).hostRead = s.hostRead ∧
    (s.offerEnd m n).freeIndex = s.freeIndex ∧ (s.offerEnd m n).pending = s.pending := by
  simp only [State.offerEnd]
  (repeat' split) <;> simp

@[simp] theorem State.refuseLoad_frame (s : State) (r : SetupRefusal) :
    (s.refuseLoad r).sweep = s.sweep ∧ (s.refuseLoad r).chainage = s.chainage ∧ (s.refuseLoad r).cant = s.cant ∧
    (s.refuseLoad r).accumulator = s.accumulator ∧ (s.refuseLoad r).evaluator = s.evaluator ∧
    (s.refuseLoad r).comparator = s.comparator ∧ (s.refuseLoad r).sheets = s.sheets ∧
    (s.refuseLoad r).control = s.control ∧ (s.refuseLoad r).port = s.port ∧ (s.refuseLoad r).memory = s.memory ∧
    (s.refuseLoad r).lines = s.lines ∧ (s.refuseLoad r).sent = s.sent ∧ (s.refuseLoad r).hostRead = s.hostRead ∧
    (s.refuseLoad r).positionDue = s.positionDue ∧ (s.refuseLoad r).freeIndex = s.freeIndex ∧
    (s.refuseLoad r).pending = s.pending := by
  simp only [State.refuseLoad]
  (repeat' split) <;> simp

@[simp] theorem State.beginLoad_frame (s : State) (t : SetId) (o : Nat) :
    (s.beginLoad t o).sweep = s.sweep ∧ (s.beginLoad t o).chainage = s.chainage ∧ (s.beginLoad t o).cant = s.cant ∧
    (s.beginLoad t o).accumulator = s.accumulator ∧ (s.beginLoad t o).evaluator = s.evaluator ∧
    (s.beginLoad t o).comparator = s.comparator ∧ (s.beginLoad t o).sheets = s.sheets ∧
    (s.beginLoad t o).control = s.control ∧ (s.beginLoad t o).memory = s.memory ∧
    (s.beginLoad t o).lines = s.lines ∧ (s.beginLoad t o).sent = s.sent ∧ (s.beginLoad t o).hostRead = s.hostRead ∧
    (s.beginLoad t o).positionDue = s.positionDue ∧ (s.beginLoad t o).freeIndex = s.freeIndex ∧
    (s.beginLoad t o).pending = s.pending := by
  simp only [State.beginLoad]
  (repeat' split) <;> simp

@[simp] theorem State.cancelLoad_frame (s : State) :
    s.cancelLoad.sweep = s.sweep ∧ s.cancelLoad.chainage = s.chainage ∧ s.cancelLoad.cant = s.cant ∧
    s.cancelLoad.accumulator = s.accumulator ∧ s.cancelLoad.evaluator = s.evaluator ∧
    s.cancelLoad.comparator = s.comparator ∧ s.cancelLoad.sheets = s.sheets ∧ s.cancelLoad.notices = s.notices ∧
    s.cancelLoad.control = s.control ∧ s.cancelLoad.memory = s.memory ∧ s.cancelLoad.lines = s.lines ∧
    s.cancelLoad.sent = s.sent ∧ s.cancelLoad.hostRead = s.hostRead ∧ s.cancelLoad.positionDue = s.positionDue ∧
    s.cancelLoad.freeIndex = s.freeIndex ∧ s.cancelLoad.pending = s.pending := by
  simp only [State.cancelLoad]
  (repeat' split) <;> simp

@[simp] theorem State.releaseSet_frame (s : State) (i : SetId) :
    (s.releaseSet i).sweep = s.sweep ∧ (s.releaseSet i).chainage = s.chainage ∧ (s.releaseSet i).cant = s.cant ∧
    (s.releaseSet i).accumulator = s.accumulator ∧ (s.releaseSet i).evaluator = s.evaluator ∧
    (s.releaseSet i).comparator = s.comparator ∧ (s.releaseSet i).sheets = s.sheets ∧
    (s.releaseSet i).control = s.control ∧ (s.releaseSet i).memory = s.memory ∧ (s.releaseSet i).lines = s.lines ∧
    (s.releaseSet i).sent = s.sent ∧ (s.releaseSet i).hostRead = s.hostRead ∧
    (s.releaseSet i).positionDue = s.positionDue ∧ (s.releaseSet i).freeIndex = s.freeIndex ∧
    (s.releaseSet i).pending = s.pending := by
  simp only [State.releaseSet]
  (repeat' split) <;> simp

@[simp] theorem State.switchPlan_frame (s : State) (n : Int) :
    (s.switchPlan n).sweep = s.sweep ∧ (s.switchPlan n).chainage = s.chainage ∧ (s.switchPlan n).cant = s.cant ∧
    (s.switchPlan n).accumulator = s.accumulator ∧ (s.switchPlan n).evaluator = s.evaluator ∧
    (s.switchPlan n).comparator = s.comparator ∧ (s.switchPlan n).control = s.control ∧
    (s.switchPlan n).memory = s.memory ∧ (s.switchPlan n).lines = s.lines ∧ (s.switchPlan n).sent = s.sent ∧
    (s.switchPlan n).hostRead = s.hostRead ∧ (s.switchPlan n).freeIndex = s.freeIndex ∧
    (s.switchPlan n).pending = s.pending := by
  simp only [State.switchPlan]
  (repeat' split) <;> simp

@[simp] theorem State.announcePlan_frame (s : State) (n : Int) :
    (s.announcePlan n).sweep = s.sweep ∧ (s.announcePlan n).chainage = s.chainage ∧
    (s.announcePlan n).cant = s.cant ∧ (s.announcePlan n).accumulator = s.accumulator ∧
    (s.announcePlan n).evaluator = s.evaluator ∧ (s.announcePlan n).comparator = s.comparator ∧
    (s.announcePlan n).loader = s.loader ∧ (s.announcePlan n).control = s.control ∧
    (s.announcePlan n).memory = s.memory ∧ (s.announcePlan n).lines = s.lines ∧ (s.announcePlan n).sent = s.sent ∧
    (s.announcePlan n).hostRead = s.hostRead ∧ (s.announcePlan n).freeIndex = s.freeIndex ∧
    (s.announcePlan n).pending = s.pending := by
  simp only [State.announcePlan]
  (repeat' split) <;> simp

@[simp] theorem State.referActive_frame (s : State) :
    s.referActive.sweep = s.sweep ∧ s.referActive.chainage = s.chainage ∧ s.referActive.cant = s.cant ∧
    s.referActive.accumulator = s.accumulator ∧ s.referActive.evaluator = s.evaluator ∧
    s.referActive.comparator = s.comparator ∧ s.referActive.sheets = s.sheets ∧ s.referActive.notices = s.notices ∧
    s.referActive.control = s.control ∧ s.referActive.port = s.port ∧ s.referActive.memory = s.memory ∧
    s.referActive.lines = s.lines ∧ s.referActive.sent = s.sent ∧ s.referActive.hostRead = s.hostRead ∧
    s.referActive.positionDue = s.positionDue ∧ s.referActive.freeIndex = s.freeIndex ∧
    s.referActive.pending = s.pending := by
  simp only [State.referActive]
  (repeat' split) <;> simp

@[simp] theorem State.openStationIn_frame (s : State) (i : BankId) (n : Int) :
    (s.openStationIn i n).sweep = s.sweep ∧ (s.openStationIn i n).cant = s.cant ∧
    (s.openStationIn i n).evaluator = s.evaluator ∧ (s.openStationIn i n).comparator = s.comparator ∧
    (s.openStationIn i n).sheets = s.sheets ∧ (s.openStationIn i n).notices = s.notices ∧
    (s.openStationIn i n).control = s.control ∧ (s.openStationIn i n).port = s.port ∧
    (s.openStationIn i n).memory = s.memory ∧ (s.openStationIn i n).lines = s.lines ∧
    (s.openStationIn i n).sent = s.sent ∧ (s.openStationIn i n).hostRead = s.hostRead ∧
    (s.openStationIn i n).positionDue = s.positionDue ∧ (s.openStationIn i n).freeIndex = s.freeIndex ∧
    (s.openStationIn i n).pending = s.pending := by
  simp only [State.openStationIn]
  (repeat' split) <;> simp

@[simp] theorem State.openStation_frame (s : State) (i : BankId) (n : Int) :
    (s.openStation i n).sweep = s.sweep ∧ (s.openStation i n).cant = s.cant ∧
    (s.openStation i n).evaluator = s.evaluator ∧ (s.openStation i n).comparator = s.comparator ∧
    (s.openStation i n).control = s.control ∧ (s.openStation i n).memory = s.memory ∧
    (s.openStation i n).lines = s.lines ∧ (s.openStation i n).sent = s.sent ∧
    (s.openStation i n).hostRead = s.hostRead ∧ (s.openStation i n).freeIndex = s.freeIndex ∧
    (s.openStation i n).pending = s.pending := by
  simp only [State.openStation]
  (repeat' split) <;> simp

@[simp] theorem State.freeBank_frame (s : State) (i : BankId) :
    (s.freeBank i).sweep = s.sweep ∧ (s.freeBank i).chainage = s.chainage ∧ (s.freeBank i).cant = s.cant ∧
    (s.freeBank i).evaluator = s.evaluator ∧ (s.freeBank i).comparator = s.comparator ∧
    (s.freeBank i).sheets = s.sheets ∧ (s.freeBank i).control = s.control ∧ (s.freeBank i).memory = s.memory ∧
    (s.freeBank i).lines = s.lines ∧ (s.freeBank i).sent = s.sent ∧ (s.freeBank i).hostRead = s.hostRead ∧
    (s.freeBank i).positionDue = s.positionDue ∧ (s.freeBank i).freeIndex = s.freeIndex ∧
    (s.freeBank i).pending = s.pending := by
  simp only [State.freeBank]
  (repeat' split) <;> simp

@[simp] theorem State.closeBank_frame (s : State) (i : BankId) (n : Nat) (c : Bool) :
    (s.closeBank i n c).sweep = s.sweep ∧ (s.closeBank i n c).chainage = s.chainage ∧
    (s.closeBank i n c).cant = s.cant ∧ (s.closeBank i n c).evaluator = s.evaluator ∧
    (s.closeBank i n c).comparator = s.comparator ∧ (s.closeBank i n c).loader = s.loader ∧
    (s.closeBank i n c).sheets = s.sheets ∧ (s.closeBank i n c).notices = s.notices ∧
    (s.closeBank i n c).control = s.control ∧ (s.closeBank i n c).port = s.port ∧
    (s.closeBank i n c).memory = s.memory ∧ (s.closeBank i n c).lines = s.lines ∧
    (s.closeBank i n c).sent = s.sent ∧ (s.closeBank i n c).hostRead = s.hostRead ∧
    (s.closeBank i n c).positionDue = s.positionDue ∧ (s.closeBank i n c).freeIndex = s.freeIndex ∧
    (s.closeBank i n c).pending = s.pending := by
  simp only [State.closeBank]
  (repeat' split) <;> simp

@[simp] theorem State.takeBoundary_frame (s : State) (i : BankId) (n : Int) :
    (s.takeBoundary i n).sweep = s.sweep ∧ (s.takeBoundary i n).cant = s.cant ∧
    (s.takeBoundary i n).evaluator = s.evaluator ∧ (s.takeBoundary i n).comparator = s.comparator ∧
    (s.takeBoundary i n).control = s.control ∧ (s.takeBoundary i n).memory = s.memory ∧
    (s.takeBoundary i n).lines = s.lines ∧ (s.takeBoundary i n).sent = s.sent ∧
    (s.takeBoundary i n).hostRead = s.hostRead ∧ (s.takeBoundary i n).freeIndex = s.freeIndex ∧
    (s.takeBoundary i n).pending = s.pending := by
  simp only [State.takeBoundary]
  (repeat' split) <;> simp

@[simp] theorem State.takeHeldBoundary_frame (s : State) :
    s.takeHeldBoundary.sweep = s.sweep ∧ s.takeHeldBoundary.cant = s.cant ∧
    s.takeHeldBoundary.evaluator = s.evaluator ∧ s.takeHeldBoundary.comparator = s.comparator ∧
    s.takeHeldBoundary.control = s.control ∧ s.takeHeldBoundary.memory = s.memory ∧
    s.takeHeldBoundary.lines = s.lines ∧ s.takeHeldBoundary.sent = s.sent ∧
    s.takeHeldBoundary.hostRead = s.hostRead ∧ s.takeHeldBoundary.freeIndex = s.freeIndex ∧
    s.takeHeldBoundary.pending = s.pending := by
  simp only [State.takeHeldBoundary]
  (repeat' split) <;> simp

@[simp] theorem State.beginEvaluation_frame (s : State) (i : BankId) :
    (s.beginEvaluation i).sweep = s.sweep ∧ (s.beginEvaluation i).chainage = s.chainage ∧
    (s.beginEvaluation i).cant = s.cant ∧ (s.beginEvaluation i).accumulator = s.accumulator ∧
    (s.beginEvaluation i).comparator = s.comparator ∧ (s.beginEvaluation i).loader = s.loader ∧
    (s.beginEvaluation i).sheets = s.sheets ∧ (s.beginEvaluation i).notices = s.notices ∧
    (s.beginEvaluation i).control = s.control ∧ (s.beginEvaluation i).port = s.port ∧
    (s.beginEvaluation i).memory = s.memory ∧ (s.beginEvaluation i).lines = s.lines ∧
    (s.beginEvaluation i).sent = s.sent ∧ (s.beginEvaluation i).hostRead = s.hostRead ∧
    (s.beginEvaluation i).positionDue = s.positionDue ∧ (s.beginEvaluation i).freeIndex = s.freeIndex ∧
    (s.beginEvaluation i).pending = s.pending := by
  simp only [State.beginEvaluation]
  (repeat' split) <;> simp

@[simp] theorem State.becomeEvaluating_frame (s : State) (i : BankId) :
    (s.becomeEvaluating i).sweep = s.sweep ∧ (s.becomeEvaluating i).cant = s.cant ∧
    (s.becomeEvaluating i).comparator = s.comparator ∧ (s.becomeEvaluating i).control = s.control ∧
    (s.becomeEvaluating i).memory = s.memory ∧ (s.becomeEvaluating i).lines = s.lines ∧
    (s.becomeEvaluating i).sent = s.sent ∧ (s.becomeEvaluating i).hostRead = s.hostRead ∧
    (s.becomeEvaluating i).freeIndex = s.freeIndex ∧ (s.becomeEvaluating i).pending = s.pending := by
  simp only [State.becomeEvaluating]
  (repeat' split) <;> simp

@[simp] theorem State.evaluationRound_frame (s : State) :
    s.evaluationRound.sweep = s.sweep ∧ s.evaluationRound.cant = s.cant ∧
    s.evaluationRound.comparator = s.comparator ∧ s.evaluationRound.control = s.control ∧
    s.evaluationRound.memory = s.memory ∧ s.evaluationRound.lines = s.lines ∧ s.evaluationRound.sent = s.sent ∧
    s.evaluationRound.hostRead = s.hostRead ∧ s.evaluationRound.freeIndex = s.freeIndex ∧
    s.evaluationRound.pending = s.pending := by
  simp only [State.evaluationRound]
  (repeat' split) <;> simp

@[simp] theorem State.advanceEvaluation_frame (s : State) :
    s.advanceEvaluation.sweep = s.sweep ∧ s.advanceEvaluation.cant = s.cant ∧
    s.advanceEvaluation.comparator = s.comparator ∧ s.advanceEvaluation.control = s.control ∧
    s.advanceEvaluation.memory = s.memory ∧ s.advanceEvaluation.lines = s.lines ∧
    s.advanceEvaluation.sent = s.sent ∧ s.advanceEvaluation.hostRead = s.hostRead ∧
    s.advanceEvaluation.freeIndex = s.freeIndex ∧ s.advanceEvaluation.pending = s.pending := by
  simp only [State.advanceEvaluation]
  (repeat' split) <;> simp

@[simp] theorem State.dropInHand_frame (s : State) (t : Tag) :
    (s.dropInHand t).sweep = s.sweep ∧ (s.dropInHand t).chainage = s.chainage ∧ (s.dropInHand t).cant = s.cant ∧
    (s.dropInHand t).evaluator = s.evaluator ∧ (s.dropInHand t).comparator = s.comparator ∧
    (s.dropInHand t).loader = s.loader ∧ (s.dropInHand t).sheets = s.sheets ∧
    (s.dropInHand t).notices = s.notices ∧ (s.dropInHand t).control = s.control ∧ (s.dropInHand t).port = s.port ∧
    (s.dropInHand t).memory = s.memory ∧ (s.dropInHand t).lines = s.lines ∧ (s.dropInHand t).sent = s.sent ∧
    (s.dropInHand t).hostRead = s.hostRead ∧ (s.dropInHand t).positionDue = s.positionDue ∧
    (s.dropInHand t).freeIndex = s.freeIndex ∧ (s.dropInHand t).pending = s.pending := by
  simp only [State.dropInHand]
  (repeat' split) <;> simp

@[simp] theorem State.countDiscard_frame (s : State) (t : Tag) :
    (s.countDiscard t).sweep = s.sweep ∧ (s.countDiscard t).chainage = s.chainage ∧
    (s.countDiscard t).cant = s.cant ∧ (s.countDiscard t).evaluator = s.evaluator ∧
    (s.countDiscard t).comparator = s.comparator ∧ (s.countDiscard t).loader = s.loader ∧
    (s.countDiscard t).sheets = s.sheets ∧ (s.countDiscard t).notices = s.notices ∧
    (s.countDiscard t).control = s.control ∧ (s.countDiscard t).port = s.port ∧
    (s.countDiscard t).memory = s.memory ∧ (s.countDiscard t).lines = s.lines ∧ (s.countDiscard t).sent = s.sent ∧
    (s.countDiscard t).hostRead = s.hostRead ∧ (s.countDiscard t).positionDue = s.positionDue ∧
    (s.countDiscard t).freeIndex = s.freeIndex ∧ (s.countDiscard t).pending = s.pending := by
  simp only [State.countDiscard]
  (repeat' split) <;> simp

@[simp] theorem State.reportDiscard_frame (s : State) (t : Option Tag) :
    (s.reportDiscard t).sweep = s.sweep ∧ (s.reportDiscard t).chainage = s.chainage ∧
    (s.reportDiscard t).cant = s.cant ∧ (s.reportDiscard t).evaluator = s.evaluator ∧
    (s.reportDiscard t).comparator = s.comparator ∧ (s.reportDiscard t).loader = s.loader ∧
    (s.reportDiscard t).sheets = s.sheets ∧ (s.reportDiscard t).notices = s.notices ∧
    (s.reportDiscard t).control = s.control ∧ (s.reportDiscard t).port = s.port ∧
    (s.reportDiscard t).memory = s.memory ∧ (s.reportDiscard t).lines = s.lines ∧
    (s.reportDiscard t).sent = s.sent ∧ (s.reportDiscard t).hostRead = s.hostRead ∧
    (s.reportDiscard t).positionDue = s.positionDue ∧ (s.reportDiscard t).freeIndex = s.freeIndex ∧
    (s.reportDiscard t).pending = s.pending := by
  simp only [State.reportDiscard]
  (repeat' split) <;> simp

@[simp] theorem State.startCommit_frame (s : State) (h : Handed) :
    (s.startCommit h).sweep = s.sweep ∧ (s.startCommit h).chainage = s.chainage ∧ (s.startCommit h).cant = s.cant ∧
    (s.startCommit h).evaluator = s.evaluator ∧ (s.startCommit h).comparator = s.comparator ∧
    (s.startCommit h).loader = s.loader ∧ (s.startCommit h).sheets = s.sheets ∧
    (s.startCommit h).notices = s.notices ∧ (s.startCommit h).control = s.control ∧
    (s.startCommit h).port = s.port ∧ (s.startCommit h).memory = s.memory ∧ (s.startCommit h).lines = s.lines ∧
    (s.startCommit h).sent = s.sent ∧ (s.startCommit h).hostRead = s.hostRead ∧
    (s.startCommit h).positionDue = s.positionDue ∧ (s.startCommit h).freeIndex = s.freeIndex ∧
    (s.startCommit h).pending = s.pending := by
  simp only [State.startCommit]
  (repeat' split) <;> simp

@[simp] theorem State.dropHanded_frame (s : State) (h : Handed) :
    (s.dropHanded h).chainage = s.chainage ∧ (s.dropHanded h).cant = s.cant ∧
    (s.dropHanded h).evaluator = s.evaluator ∧ (s.dropHanded h).comparator = s.comparator ∧
    (s.dropHanded h).loader = s.loader ∧ (s.dropHanded h).sheets = s.sheets ∧
    (s.dropHanded h).notices = s.notices ∧ (s.dropHanded h).control = s.control ∧ (s.dropHanded h).port = s.port ∧
    (s.dropHanded h).memory = s.memory ∧ (s.dropHanded h).lines = s.lines ∧ (s.dropHanded h).sent = s.sent ∧
    (s.dropHanded h).hostRead = s.hostRead ∧ (s.dropHanded h).positionDue = s.positionDue ∧
    (s.dropHanded h).freeIndex = s.freeIndex ∧ (s.dropHanded h).pending = s.pending := by
  simp only [State.dropHanded]
  (repeat' split) <;> simp

@[simp] theorem State.judgeHandedOnce_frame (s : State) :
    s.judgeHandedOnce.chainage = s.chainage ∧ s.judgeHandedOnce.cant = s.cant ∧
    s.judgeHandedOnce.evaluator = s.evaluator ∧ s.judgeHandedOnce.comparator = s.comparator ∧
    s.judgeHandedOnce.loader = s.loader ∧ s.judgeHandedOnce.sheets = s.sheets ∧
    s.judgeHandedOnce.notices = s.notices ∧ s.judgeHandedOnce.control = s.control ∧
    s.judgeHandedOnce.port = s.port ∧ s.judgeHandedOnce.memory = s.memory ∧ s.judgeHandedOnce.lines = s.lines ∧
    s.judgeHandedOnce.sent = s.sent ∧ s.judgeHandedOnce.hostRead = s.hostRead ∧
    s.judgeHandedOnce.positionDue = s.positionDue ∧ s.judgeHandedOnce.freeIndex = s.freeIndex ∧
    s.judgeHandedOnce.pending = s.pending := by
  simp only [State.judgeHandedOnce]
  (repeat' split) <;> simp

@[simp] theorem State.judgeHanded_frame (s : State) :
    s.judgeHanded.chainage = s.chainage ∧ s.judgeHanded.cant = s.cant ∧ s.judgeHanded.evaluator = s.evaluator ∧
    s.judgeHanded.comparator = s.comparator ∧ s.judgeHanded.loader = s.loader ∧ s.judgeHanded.sheets = s.sheets ∧
    s.judgeHanded.notices = s.notices ∧ s.judgeHanded.control = s.control ∧ s.judgeHanded.port = s.port ∧
    s.judgeHanded.memory = s.memory ∧ s.judgeHanded.lines = s.lines ∧ s.judgeHanded.sent = s.sent ∧
    s.judgeHanded.hostRead = s.hostRead ∧ s.judgeHanded.positionDue = s.positionDue ∧
    s.judgeHanded.freeIndex = s.freeIndex ∧ s.judgeHanded.pending = s.pending := by
  simp only [State.judgeHanded]
  (repeat' split) <;> simp

@[simp] theorem State.cutCommit_frame (s : State) :
    s.cutCommit.sweep = s.sweep ∧ s.cutCommit.chainage = s.chainage ∧ s.cutCommit.cant = s.cant ∧
    s.cutCommit.evaluator = s.evaluator ∧ s.cutCommit.comparator = s.comparator ∧ s.cutCommit.loader = s.loader ∧
    s.cutCommit.sheets = s.sheets ∧ s.cutCommit.notices = s.notices ∧ s.cutCommit.control = s.control ∧
    s.cutCommit.port = s.port ∧ s.cutCommit.memory = s.memory ∧ s.cutCommit.lines = s.lines ∧
    s.cutCommit.sent = s.sent ∧ s.cutCommit.hostRead = s.hostRead ∧ s.cutCommit.positionDue = s.positionDue ∧
    s.cutCommit.pending = s.pending := by
  simp only [State.cutCommit]
  (repeat' split) <;> simp

@[simp] theorem State.dropBanks_frame (s : State) :
    s.dropBanks.sweep = s.sweep ∧ s.dropBanks.chainage = s.chainage ∧ s.dropBanks.cant = s.cant ∧
    s.dropBanks.evaluator = s.evaluator ∧ s.dropBanks.comparator = s.comparator ∧ s.dropBanks.sheets = s.sheets ∧
    s.dropBanks.control = s.control ∧ s.dropBanks.memory = s.memory ∧ s.dropBanks.lines = s.lines ∧
    s.dropBanks.sent = s.sent ∧ s.dropBanks.hostRead = s.hostRead ∧ s.dropBanks.positionDue = s.positionDue ∧
    s.dropBanks.pending = s.pending := by
  simp only [State.dropBanks]
  (repeat' split) <;> simp

@[simp] theorem State.dropAssessments_frame (s : State) :
    s.dropAssessments.sweep = s.sweep ∧ s.dropAssessments.chainage = s.chainage ∧ s.dropAssessments.cant = s.cant ∧
    s.dropAssessments.accumulator = s.accumulator ∧ s.dropAssessments.loader = s.loader ∧
    s.dropAssessments.sheets = s.sheets ∧ s.dropAssessments.notices = s.notices ∧
    s.dropAssessments.control = s.control ∧ s.dropAssessments.memory = s.memory ∧
    s.dropAssessments.lines = s.lines ∧ s.dropAssessments.sent = s.sent ∧ s.dropAssessments.hostRead = s.hostRead ∧
    s.dropAssessments.positionDue = s.positionDue ∧ s.dropAssessments.freeIndex = s.freeIndex ∧
    s.dropAssessments.pending = s.pending := by
  simp only [State.dropAssessments]
  (repeat' split) <;> simp

@[simp] theorem State.sendRun_frame (s : State) :
    s.sendRun.chainage = s.chainage ∧ s.sendRun.cant = s.cant ∧ s.sendRun.accumulator = s.accumulator ∧
    s.sendRun.evaluator = s.evaluator ∧ s.sendRun.comparator = s.comparator ∧ s.sendRun.loader = s.loader ∧
    s.sendRun.sheets = s.sheets ∧ s.sendRun.notices = s.notices ∧ s.sendRun.control = s.control ∧
    s.sendRun.port = s.port ∧ s.sendRun.memory = s.memory ∧ s.sendRun.lines = s.lines ∧
    s.sendRun.hostRead = s.hostRead ∧ s.sendRun.positionDue = s.positionDue ∧ s.sendRun.freeIndex = s.freeIndex ∧
    s.sendRun.pending = s.pending := by
  simp only [State.sendRun]
  (repeat' split) <;> simp

@[simp] theorem State.sendStop_frame (s : State) :
    s.sendStop.chainage = s.chainage ∧ s.sendStop.cant = s.cant ∧ s.sendStop.accumulator = s.accumulator ∧
    s.sendStop.evaluator = s.evaluator ∧ s.sendStop.comparator = s.comparator ∧ s.sendStop.loader = s.loader ∧
    s.sendStop.sheets = s.sheets ∧ s.sendStop.notices = s.notices ∧ s.sendStop.control = s.control ∧
    s.sendStop.port = s.port ∧ s.sendStop.memory = s.memory ∧ s.sendStop.lines = s.lines ∧
    s.sendStop.hostRead = s.hostRead ∧ s.sendStop.positionDue = s.positionDue ∧
    s.sendStop.freeIndex = s.freeIndex ∧ s.sendStop.pending = s.pending := by
  simp only [State.sendStop]
  (repeat' split) <;> simp

@[simp] theorem State.dropCurrent_frame (s : State) (n : Receiver) :
    (s.dropCurrent n).chainage = s.chainage ∧ (s.dropCurrent n).cant = s.cant ∧
    (s.dropCurrent n).accumulator = s.accumulator ∧ (s.dropCurrent n).evaluator = s.evaluator ∧
    (s.dropCurrent n).comparator = s.comparator ∧ (s.dropCurrent n).loader = s.loader ∧
    (s.dropCurrent n).sheets = s.sheets ∧ (s.dropCurrent n).notices = s.notices ∧
    (s.dropCurrent n).control = s.control ∧ (s.dropCurrent n).port = s.port ∧ (s.dropCurrent n).memory = s.memory ∧
    (s.dropCurrent n).lines = s.lines ∧ (s.dropCurrent n).sent = s.sent ∧ (s.dropCurrent n).hostRead = s.hostRead ∧
    (s.dropCurrent n).positionDue = s.positionDue ∧ (s.dropCurrent n).freeIndex = s.freeIndex ∧
    (s.dropCurrent n).pending = s.pending := by
  simp only [State.dropCurrent]
  (repeat' split) <;> simp

@[simp] theorem State.discardCurrent_frame (s : State) (n : Receiver) :
    (s.discardCurrent n).chainage = s.chainage ∧ (s.discardCurrent n).cant = s.cant ∧
    (s.discardCurrent n).evaluator = s.evaluator ∧ (s.discardCurrent n).comparator = s.comparator ∧
    (s.discardCurrent n).loader = s.loader ∧ (s.discardCurrent n).sheets = s.sheets ∧
    (s.discardCurrent n).notices = s.notices ∧ (s.discardCurrent n).control = s.control ∧
    (s.discardCurrent n).port = s.port ∧ (s.discardCurrent n).memory = s.memory ∧
    (s.discardCurrent n).lines = s.lines ∧ (s.discardCurrent n).sent = s.sent ∧
    (s.discardCurrent n).hostRead = s.hostRead ∧ (s.discardCurrent n).positionDue = s.positionDue ∧
    (s.discardCurrent n).freeIndex = s.freeIndex ∧ (s.discardCurrent n).pending = s.pending := by
  simp only [State.discardCurrent]
  (repeat' split) <;> simp

@[simp] theorem State.shutIntake_frame (s : State) :
    s.shutIntake.chainage = s.chainage ∧ s.shutIntake.accumulator = s.accumulator ∧
    s.shutIntake.evaluator = s.evaluator ∧ s.shutIntake.comparator = s.comparator ∧
    s.shutIntake.loader = s.loader ∧ s.shutIntake.sheets = s.sheets ∧ s.shutIntake.notices = s.notices ∧
    s.shutIntake.control = s.control ∧ s.shutIntake.port = s.port ∧ s.shutIntake.memory = s.memory ∧
    s.shutIntake.lines = s.lines ∧ s.shutIntake.sent = s.sent ∧ s.shutIntake.hostRead = s.hostRead ∧
    s.shutIntake.positionDue = s.positionDue ∧ s.shutIntake.freeIndex = s.freeIndex ∧
    s.shutIntake.pending = s.pending := by
  simp only [State.shutIntake]
  (repeat' split) <;> simp

@[simp] theorem State.shutIntakeEmptied_frame (s : State) :
    s.shutIntakeEmptied.chainage = s.chainage ∧ s.shutIntakeEmptied.accumulator = s.accumulator ∧
    s.shutIntakeEmptied.evaluator = s.evaluator ∧ s.shutIntakeEmptied.comparator = s.comparator ∧
    s.shutIntakeEmptied.loader = s.loader ∧ s.shutIntakeEmptied.sheets = s.sheets ∧
    s.shutIntakeEmptied.notices = s.notices ∧ s.shutIntakeEmptied.control = s.control ∧
    s.shutIntakeEmptied.port = s.port ∧ s.shutIntakeEmptied.memory = s.memory ∧
    s.shutIntakeEmptied.lines = s.lines ∧ s.shutIntakeEmptied.sent = s.sent ∧
    s.shutIntakeEmptied.hostRead = s.hostRead ∧ s.shutIntakeEmptied.positionDue = s.positionDue ∧
    s.shutIntakeEmptied.freeIndex = s.freeIndex ∧ s.shutIntakeEmptied.pending = s.pending := by
  simp only [State.shutIntakeEmptied]
  (repeat' split) <;> simp

@[simp] theorem State.leaveSurveying_frame (s : State) (m : ChainageMode) :
    (s.leaveSurveying m).sweep = s.sweep ∧ (s.leaveSurveying m).cant = s.cant ∧
    (s.leaveSurveying m).accumulator = s.accumulator ∧ (s.leaveSurveying m).evaluator = s.evaluator ∧
    (s.leaveSurveying m).comparator = s.comparator ∧ (s.leaveSurveying m).loader = s.loader ∧
    (s.leaveSurveying m).sheets = s.sheets ∧ (s.leaveSurveying m).notices = s.notices ∧
    (s.leaveSurveying m).control = s.control ∧ (s.leaveSurveying m).port = s.port ∧
    (s.leaveSurveying m).memory = s.memory ∧ (s.leaveSurveying m).lines = s.lines ∧
    (s.leaveSurveying m).sent = s.sent ∧ (s.leaveSurveying m).hostRead = s.hostRead ∧
    (s.leaveSurveying m).positionDue = s.positionDue ∧ (s.leaveSurveying m).freeIndex = s.freeIndex ∧
    (s.leaveSurveying m).pending = s.pending := by
  simp only [State.leaveSurveying]
  (repeat' split) <;> simp

@[simp] theorem State.finishDraining_frame (s : State) :
    s.finishDraining.sweep = s.sweep ∧ s.finishDraining.chainage = s.chainage ∧ s.finishDraining.cant = s.cant ∧
    s.finishDraining.accumulator = s.accumulator ∧ s.finishDraining.evaluator = s.evaluator ∧
    s.finishDraining.comparator = s.comparator ∧ s.finishDraining.loader = s.loader ∧
    s.finishDraining.memory = s.memory ∧ s.finishDraining.lines = s.lines ∧ s.finishDraining.sent = s.sent ∧
    s.finishDraining.hostRead = s.hostRead ∧ s.finishDraining.freeIndex = s.freeIndex ∧
    s.finishDraining.pending = s.pending := by
  simp only [State.finishDraining]
  (repeat' split) <;> simp

@[simp] theorem State.settle_frame (s : State) :
    s.settle.sweep = s.sweep ∧ s.settle.chainage = s.chainage ∧ s.settle.cant = s.cant ∧
    s.settle.accumulator = s.accumulator ∧ s.settle.evaluator = s.evaluator ∧ s.settle.comparator = s.comparator ∧
    s.settle.loader = s.loader ∧ s.settle.memory = s.memory ∧ s.settle.lines = s.lines ∧ s.settle.sent = s.sent ∧
    s.settle.hostRead = s.hostRead ∧ s.settle.freeIndex = s.freeIndex ∧ s.settle.pending = s.pending := by
  simp only [State.settle]
  (repeat' split) <;> simp

@[simp] theorem State.recordPost_frame (s : State) (k : BitVec 8) (r : PostResult) :
    (s.recordPost k r).sweep = s.sweep ∧ (s.recordPost k r).chainage = s.chainage ∧
    (s.recordPost k r).cant = s.cant ∧ (s.recordPost k r).accumulator = s.accumulator ∧
    (s.recordPost k r).evaluator = s.evaluator ∧ (s.recordPost k r).comparator = s.comparator ∧
    (s.recordPost k r).loader = s.loader ∧ (s.recordPost k r).sheets = s.sheets ∧
    (s.recordPost k r).notices = s.notices ∧ (s.recordPost k r).port = s.port ∧
    (s.recordPost k r).memory = s.memory ∧ (s.recordPost k r).lines = s.lines ∧ (s.recordPost k r).sent = s.sent ∧
    (s.recordPost k r).hostRead = s.hostRead ∧ (s.recordPost k r).positionDue = s.positionDue ∧
    (s.recordPost k r).freeIndex = s.freeIndex ∧ (s.recordPost k r).pending = s.pending := by
  simp only [State.recordPost]
  (repeat' split) <;> simp

@[simp] theorem State.storeSample_frame (s : State) (i : BufferId) (x : Sample) :
    (s.storeSample i x).chainage = s.chainage ∧ (s.storeSample i x).cant = s.cant ∧
    (s.storeSample i x).accumulator = s.accumulator ∧ (s.storeSample i x).evaluator = s.evaluator ∧
    (s.storeSample i x).comparator = s.comparator ∧ (s.storeSample i x).loader = s.loader ∧
    (s.storeSample i x).sheets = s.sheets ∧ (s.storeSample i x).notices = s.notices ∧
    (s.storeSample i x).control = s.control ∧ (s.storeSample i x).port = s.port ∧
    (s.storeSample i x).memory = s.memory ∧ (s.storeSample i x).lines = s.lines ∧
    (s.storeSample i x).sent = s.sent ∧ (s.storeSample i x).hostRead = s.hostRead ∧
    (s.storeSample i x).positionDue = s.positionDue ∧ (s.storeSample i x).freeIndex = s.freeIndex ∧
    (s.storeSample i x).pending = s.pending := by
  simp only [State.storeSample]
  (repeat' split) <;> simp

@[simp] theorem State.enterFaulted_frame (s : State) (c : FaultCause) (p : Word) :
    (s.enterFaulted c p).lines = s.lines ∧ (s.enterFaulted c p).hostRead = s.hostRead ∧
    (s.enterFaulted c p).pending = s.pending := by
  simp only [State.enterFaulted]
  (repeat' split) <;> simp

@[simp] theorem State.noteMark_frame (s : State) (n : BitVec 16) :
    (s.noteMark n).chainage = s.chainage ∧ (s.noteMark n).accumulator = s.accumulator ∧
    (s.noteMark n).evaluator = s.evaluator ∧ (s.noteMark n).comparator = s.comparator ∧
    (s.noteMark n).loader = s.loader ∧ (s.noteMark n).sheets = s.sheets ∧ (s.noteMark n).notices = s.notices ∧
    (s.noteMark n).control = s.control ∧ (s.noteMark n).port = s.port ∧ (s.noteMark n).memory = s.memory ∧
    (s.noteMark n).lines = s.lines ∧ (s.noteMark n).hostRead = s.hostRead ∧
    (s.noteMark n).positionDue = s.positionDue ∧ (s.noteMark n).freeIndex = s.freeIndex ∧
    (s.noteMark n).pending = s.pending := by
  simp only [State.noteMark]
  (repeat' split) <;> simp

@[simp] theorem State.handOver_frame (s : State) (r : Revolution) (t : Tag) (n : BitVec 16) (f : BitVec 8) :
    (s.handOver r t n f).chainage = s.chainage ∧ (s.handOver r t n f).cant = s.cant ∧
    (s.handOver r t n f).accumulator = s.accumulator ∧ (s.handOver r t n f).evaluator = s.evaluator ∧
    (s.handOver r t n f).comparator = s.comparator ∧ (s.handOver r t n f).loader = s.loader ∧
    (s.handOver r t n f).sheets = s.sheets ∧ (s.handOver r t n f).notices = s.notices ∧
    (s.handOver r t n f).control = s.control ∧ (s.handOver r t n f).port = s.port ∧
    (s.handOver r t n f).memory = s.memory ∧ (s.handOver r t n f).lines = s.lines ∧
    (s.handOver r t n f).sent = s.sent ∧ (s.handOver r t n f).hostRead = s.hostRead ∧
    (s.handOver r t n f).positionDue = s.positionDue ∧ (s.handOver r t n f).freeIndex = s.freeIndex ∧
    (s.handOver r t n f).pending = s.pending := by
  simp only [State.handOver]
  (repeat' split) <;> simp

@[simp] theorem State.judgeRevolution_frame (s : State) (n : BitVec 16) (f : BitVec 8) :
    (s.judgeRevolution n f).cant = s.cant ∧ (s.judgeRevolution n f).comparator = s.comparator ∧
    (s.judgeRevolution n f).control = s.control ∧ (s.judgeRevolution n f).memory = s.memory ∧
    (s.judgeRevolution n f).lines = s.lines ∧ (s.judgeRevolution n f).sent = s.sent ∧
    (s.judgeRevolution n f).hostRead = s.hostRead ∧ (s.judgeRevolution n f).freeIndex = s.freeIndex ∧
    (s.judgeRevolution n f).pending = s.pending := by
  simp only [State.judgeRevolution]
  (repeat' split) <;> simp

@[simp] theorem State.raiseInHand_frame (s : State) (t : Option Tag) :
    (s.raiseInHand t).sweep = s.sweep ∧ (s.raiseInHand t).chainage = s.chainage ∧ (s.raiseInHand t).cant = s.cant ∧
    (s.raiseInHand t).evaluator = s.evaluator ∧ (s.raiseInHand t).comparator = s.comparator ∧
    (s.raiseInHand t).loader = s.loader ∧ (s.raiseInHand t).sheets = s.sheets ∧
    (s.raiseInHand t).notices = s.notices ∧ (s.raiseInHand t).control = s.control ∧
    (s.raiseInHand t).port = s.port ∧ (s.raiseInHand t).memory = s.memory ∧ (s.raiseInHand t).lines = s.lines ∧
    (s.raiseInHand t).sent = s.sent ∧ (s.raiseInHand t).hostRead = s.hostRead ∧
    (s.raiseInHand t).positionDue = s.positionDue ∧ (s.raiseInHand t).freeIndex = s.freeIndex ∧
    (s.raiseInHand t).pending = s.pending := by
  simp only [State.raiseInHand]
  (repeat' split) <;> simp

@[simp] theorem State.openRevolution_frame (s : State) (n : BitVec 16) (f : BitVec 8) :
    (s.openRevolution n f).chainage = s.chainage ∧ (s.openRevolution n f).cant = s.cant ∧
    (s.openRevolution n f).evaluator = s.evaluator ∧ (s.openRevolution n f).comparator = s.comparator ∧
    (s.openRevolution n f).loader = s.loader ∧ (s.openRevolution n f).sheets = s.sheets ∧
    (s.openRevolution n f).notices = s.notices ∧ (s.openRevolution n f).control = s.control ∧
    (s.openRevolution n f).port = s.port ∧ (s.openRevolution n f).memory = s.memory ∧
    (s.openRevolution n f).lines = s.lines ∧ (s.openRevolution n f).sent = s.sent ∧
    (s.openRevolution n f).hostRead = s.hostRead ∧ (s.openRevolution n f).positionDue = s.positionDue ∧
    (s.openRevolution n f).freeIndex = s.freeIndex ∧ (s.openRevolution n f).pending = s.pending := by
  simp only [State.openRevolution]
  (repeat' split) <;> simp

@[simp] theorem State.firstLinkFault_frame (s : State) (c : LinkCause) :
    (s.firstLinkFault c).cant = s.cant ∧ (s.firstLinkFault c).comparator = s.comparator ∧
    (s.firstLinkFault c).control = s.control ∧ (s.firstLinkFault c).memory = s.memory ∧
    (s.firstLinkFault c).lines = s.lines ∧ (s.firstLinkFault c).hostRead = s.hostRead ∧
    (s.firstLinkFault c).freeIndex = s.freeIndex ∧ (s.firstLinkFault c).pending = s.pending := by
  simp only [State.firstLinkFault]
  (repeat' split) <;> simp

@[simp] theorem State.failReading_frame (s : State) :
    s.failReading.sweep = s.sweep ∧ s.failReading.chainage = s.chainage ∧
    s.failReading.accumulator = s.accumulator ∧ s.failReading.evaluator = s.evaluator ∧
    s.failReading.comparator = s.comparator ∧ s.failReading.loader = s.loader ∧ s.failReading.sheets = s.sheets ∧
    s.failReading.control = s.control ∧ s.failReading.port = s.port ∧ s.failReading.memory = s.memory ∧
    s.failReading.lines = s.lines ∧ s.failReading.sent = s.sent ∧ s.failReading.hostRead = s.hostRead ∧
    s.failReading.positionDue = s.positionDue ∧ s.failReading.freeIndex = s.freeIndex ∧
    s.failReading.pending = s.pending := by
  simp only [State.failReading]
  (repeat' split) <;> simp

@[simp] theorem State.goodReading_frame (s : State) (v : Int) :
    (s.goodReading v).sweep = s.sweep ∧ (s.goodReading v).chainage = s.chainage ∧
    (s.goodReading v).accumulator = s.accumulator ∧ (s.goodReading v).evaluator = s.evaluator ∧
    (s.goodReading v).comparator = s.comparator ∧ (s.goodReading v).loader = s.loader ∧
    (s.goodReading v).sheets = s.sheets ∧ (s.goodReading v).notices = s.notices ∧
    (s.goodReading v).control = s.control ∧ (s.goodReading v).port = s.port ∧ (s.goodReading v).memory = s.memory ∧
    (s.goodReading v).lines = s.lines ∧ (s.goodReading v).sent = s.sent ∧ (s.goodReading v).hostRead = s.hostRead ∧
    (s.goodReading v).positionDue = s.positionDue ∧ (s.goodReading v).freeIndex = s.freeIndex ∧
    (s.goodReading v).pending = s.pending := by
  simp only [State.goodReading]
  (repeat' split) <;> simp

@[simp] theorem State.flagOpenBank_frame (s : State) (f : StationFlags → StationFlags) :
    (s.flagOpenBank f).sweep = s.sweep ∧ (s.flagOpenBank f).chainage = s.chainage ∧
    (s.flagOpenBank f).cant = s.cant ∧ (s.flagOpenBank f).evaluator = s.evaluator ∧
    (s.flagOpenBank f).comparator = s.comparator ∧ (s.flagOpenBank f).loader = s.loader ∧
    (s.flagOpenBank f).sheets = s.sheets ∧ (s.flagOpenBank f).notices = s.notices ∧
    (s.flagOpenBank f).control = s.control ∧ (s.flagOpenBank f).port = s.port ∧
    (s.flagOpenBank f).memory = s.memory ∧ (s.flagOpenBank f).lines = s.lines ∧ (s.flagOpenBank f).sent = s.sent ∧
    (s.flagOpenBank f).hostRead = s.hostRead ∧ (s.flagOpenBank f).positionDue = s.positionDue ∧
    (s.flagOpenBank f).freeIndex = s.freeIndex ∧ (s.flagOpenBank f).pending = s.pending := by
  simp only [State.flagOpenBank]
  (repeat' split) <;> simp

@[simp] theorem State.stretch_frame (s : State) (i : BankId) (n : Int) :
    (s.stretch i n).sweep = s.sweep ∧ (s.stretch i n).chainage = s.chainage ∧ (s.stretch i n).cant = s.cant ∧
    (s.stretch i n).evaluator = s.evaluator ∧ (s.stretch i n).comparator = s.comparator ∧
    (s.stretch i n).loader = s.loader ∧ (s.stretch i n).sheets = s.sheets ∧ (s.stretch i n).notices = s.notices ∧
    (s.stretch i n).control = s.control ∧ (s.stretch i n).port = s.port ∧ (s.stretch i n).memory = s.memory ∧
    (s.stretch i n).lines = s.lines ∧ (s.stretch i n).sent = s.sent ∧ (s.stretch i n).hostRead = s.hostRead ∧
    (s.stretch i n).positionDue = s.positionDue ∧ (s.stretch i n).freeIndex = s.freeIndex ∧
    (s.stretch i n).pending = s.pending := by
  simp only [State.stretch]
  (repeat' split) <;> simp

@[simp] theorem State.signalBoundary_frame (s : State) (n : Int) :
    (s.signalBoundary n).sweep = s.sweep ∧ (s.signalBoundary n).cant = s.cant ∧
    (s.signalBoundary n).comparator = s.comparator ∧ (s.signalBoundary n).control = s.control ∧
    (s.signalBoundary n).memory = s.memory ∧ (s.signalBoundary n).lines = s.lines ∧
    (s.signalBoundary n).sent = s.sent ∧ (s.signalBoundary n).hostRead = s.hostRead ∧
    (s.signalBoundary n).freeIndex = s.freeIndex ∧ (s.signalBoundary n).pending = s.pending := by
  simp only [State.signalBoundary]
  (repeat' split) <;> simp

@[simp] theorem State.testBoundary_frame (s : State) :
    s.testBoundary.sweep = s.sweep ∧ s.testBoundary.cant = s.cant ∧ s.testBoundary.comparator = s.comparator ∧
    s.testBoundary.control = s.control ∧ s.testBoundary.memory = s.memory ∧ s.testBoundary.lines = s.lines ∧
    s.testBoundary.sent = s.sent ∧ s.testBoundary.hostRead = s.hostRead ∧ s.testBoundary.freeIndex = s.freeIndex ∧
    s.testBoundary.pending = s.pending := by
  simp only [State.testBoundary]
  (repeat' split) <;> simp

@[simp] theorem State.movePeak_frame (s : State) :
    s.movePeak.sweep = s.sweep ∧ s.movePeak.cant = s.cant ∧ s.movePeak.accumulator = s.accumulator ∧
    s.movePeak.evaluator = s.evaluator ∧ s.movePeak.comparator = s.comparator ∧ s.movePeak.loader = s.loader ∧
    s.movePeak.sheets = s.sheets ∧ s.movePeak.notices = s.notices ∧ s.movePeak.control = s.control ∧
    s.movePeak.port = s.port ∧ s.movePeak.memory = s.memory ∧ s.movePeak.lines = s.lines ∧
    s.movePeak.sent = s.sent ∧ s.movePeak.hostRead = s.hostRead ∧ s.movePeak.positionDue = s.positionDue ∧
    s.movePeak.freeIndex = s.freeIndex ∧ s.movePeak.pending = s.pending := by
  simp only [State.movePeak]
  (repeat' split) <;> simp

@[simp] theorem State.abandonStation_frame (s : State) :
    s.abandonStation.sweep = s.sweep ∧ s.abandonStation.chainage = s.chainage ∧ s.abandonStation.cant = s.cant ∧
    s.abandonStation.evaluator = s.evaluator ∧ s.abandonStation.comparator = s.comparator ∧
    s.abandonStation.control = s.control ∧ s.abandonStation.memory = s.memory ∧ s.abandonStation.lines = s.lines ∧
    s.abandonStation.sent = s.sent ∧ s.abandonStation.hostRead = s.hostRead ∧
    s.abandonStation.freeIndex = s.freeIndex ∧ s.abandonStation.pending = s.pending := by
  simp only [State.abandonStation]
  (repeat' split) <;> simp

@[simp] theorem State.reverse_frame (s : State) :
    s.reverse.cant = s.cant ∧ s.reverse.comparator = s.comparator ∧ s.reverse.control = s.control ∧
    s.reverse.memory = s.memory ∧ s.reverse.lines = s.lines ∧ s.reverse.sent = s.sent ∧
    s.reverse.hostRead = s.hostRead ∧ s.reverse.pending = s.pending := by
  simp only [State.reverse]
  (repeat' split) <;> simp

@[simp] theorem State.testReversal_frame (s : State) :
    s.testReversal.cant = s.cant ∧ s.testReversal.comparator = s.comparator ∧ s.testReversal.control = s.control ∧
    s.testReversal.memory = s.memory ∧ s.testReversal.lines = s.lines ∧ s.testReversal.sent = s.sent ∧
    s.testReversal.hostRead = s.hostRead ∧ s.testReversal.pending = s.pending := by
  simp only [State.testReversal]
  (repeat' split) <;> simp

@[simp] theorem State.resume_frame (s : State) :
    s.resume.cant = s.cant ∧ s.resume.comparator = s.comparator ∧ s.resume.control = s.control ∧
    s.resume.memory = s.memory ∧ s.resume.lines = s.lines ∧ s.resume.sent = s.sent ∧
    s.resume.hostRead = s.hostRead ∧ s.resume.freeIndex = s.freeIndex ∧ s.resume.pending = s.pending := by
  simp only [State.resume]
  (repeat' split) <;> simp

@[simp] theorem State.testResume_frame (s : State) :
    s.testResume.cant = s.cant ∧ s.testResume.comparator = s.comparator ∧ s.testResume.control = s.control ∧
    s.testResume.memory = s.memory ∧ s.testResume.lines = s.lines ∧ s.testResume.sent = s.sent ∧
    s.testResume.hostRead = s.hostRead ∧ s.testResume.freeIndex = s.freeIndex ∧
    s.testResume.pending = s.pending := by
  simp only [State.testResume]
  (repeat' split) <;> simp

@[simp] theorem State.surveyTests_frame (s : State) :
    s.surveyTests.cant = s.cant ∧ s.surveyTests.comparator = s.comparator ∧ s.surveyTests.control = s.control ∧
    s.surveyTests.memory = s.memory ∧ s.surveyTests.lines = s.lines ∧ s.surveyTests.sent = s.sent ∧
    s.surveyTests.hostRead = s.hostRead ∧ s.surveyTests.pending = s.pending := by
  simp only [State.surveyTests]
  (repeat' split) <;> simp

@[simp] theorem State.countStep_frame (s : State) (k : StepKind) :
    (s.countStep k).sweep = s.sweep ∧ (s.countStep k).cant = s.cant ∧ (s.countStep k).accumulator = s.accumulator ∧
    (s.countStep k).evaluator = s.evaluator ∧ (s.countStep k).comparator = s.comparator ∧
    (s.countStep k).loader = s.loader ∧ (s.countStep k).sheets = s.sheets ∧ (s.countStep k).notices = s.notices ∧
    (s.countStep k).control = s.control ∧ (s.countStep k).port = s.port ∧ (s.countStep k).memory = s.memory ∧
    (s.countStep k).lines = s.lines ∧ (s.countStep k).sent = s.sent ∧ (s.countStep k).hostRead = s.hostRead ∧
    (s.countStep k).positionDue = s.positionDue ∧ (s.countStep k).freeIndex = s.freeIndex ∧
    (s.countStep k).pending = s.pending := by
  simp only [State.countStep]
  (repeat' split) <;> simp

@[simp] theorem State.observeLines_frame (s : State) (l : Levels) :
    (s.observeLines l).sweep = s.sweep ∧ (s.observeLines l).cant = s.cant ∧
    (s.observeLines l).accumulator = s.accumulator ∧ (s.observeLines l).evaluator = s.evaluator ∧
    (s.observeLines l).comparator = s.comparator ∧ (s.observeLines l).loader = s.loader ∧
    (s.observeLines l).sheets = s.sheets ∧ (s.observeLines l).notices = s.notices ∧
    (s.observeLines l).control = s.control ∧ (s.observeLines l).port = s.port ∧
    (s.observeLines l).memory = s.memory ∧ (s.observeLines l).sent = s.sent ∧
    (s.observeLines l).hostRead = s.hostRead ∧ (s.observeLines l).positionDue = s.positionDue ∧
    (s.observeLines l).freeIndex = s.freeIndex ∧ (s.observeLines l).pending = s.pending := by
  simp only [State.observeLines]
  (repeat' split) <;> simp

@[simp] theorem State.validStep_frame (s : State) (k : StepKind) :
    (s.validStep k).cant = s.cant ∧ (s.validStep k).comparator = s.comparator ∧ (s.validStep k).memory = s.memory ∧
    (s.validStep k).lines = s.lines ∧ (s.validStep k).sent = s.sent ∧ (s.validStep k).hostRead = s.hostRead ∧
    (s.validStep k).pending = s.pending := by
  simp only [State.validStep]
  (repeat' split) <;> simp

@[simp] theorem State.illegalStep_frame (s : State) :
    s.illegalStep.sweep = s.sweep ∧ s.illegalStep.chainage = s.chainage ∧ s.illegalStep.cant = s.cant ∧
    s.illegalStep.evaluator = s.evaluator ∧ s.illegalStep.comparator = s.comparator ∧
    s.illegalStep.loader = s.loader ∧ s.illegalStep.sheets = s.sheets ∧ s.illegalStep.notices = s.notices ∧
    s.illegalStep.control = s.control ∧ s.illegalStep.port = s.port ∧ s.illegalStep.memory = s.memory ∧
    s.illegalStep.lines = s.lines ∧ s.illegalStep.sent = s.sent ∧ s.illegalStep.hostRead = s.hostRead ∧
    s.illegalStep.positionDue = s.positionDue ∧ s.illegalStep.freeIndex = s.freeIndex ∧
    s.illegalStep.pending = s.pending := by
  simp only [State.illegalStep]
  (repeat' split) <;> simp

@[simp] theorem State.snap_frame (s : State) (m : MarkerLatch) (x : Int) :
    (s.snap m x).sweep = s.sweep ∧ (s.snap m x).cant = s.cant ∧ (s.snap m x).comparator = s.comparator ∧
    (s.snap m x).control = s.control ∧ (s.snap m x).memory = s.memory ∧ (s.snap m x).lines = s.lines ∧
    (s.snap m x).sent = s.sent ∧ (s.snap m x).hostRead = s.hostRead ∧ (s.snap m x).freeIndex = s.freeIndex ∧
    (s.snap m x).pending = s.pending := by
  simp only [State.snap]
  (repeat' split) <;> simp

@[simp] theorem State.mismatch_frame (s : State) (m : MarkerLatch) (x : Int) :
    (s.mismatch m x).sweep = s.sweep ∧ (s.mismatch m x).chainage = s.chainage ∧ (s.mismatch m x).cant = s.cant ∧
    (s.mismatch m x).accumulator = s.accumulator ∧ (s.mismatch m x).evaluator = s.evaluator ∧
    (s.mismatch m x).comparator = s.comparator ∧ (s.mismatch m x).loader = s.loader ∧
    (s.mismatch m x).control = s.control ∧ (s.mismatch m x).memory = s.memory ∧ (s.mismatch m x).lines = s.lines ∧
    (s.mismatch m x).sent = s.sent ∧ (s.mismatch m x).hostRead = s.hostRead ∧
    (s.mismatch m x).freeIndex = s.freeIndex ∧ (s.mismatch m x).pending = s.pending := by
  simp only [State.mismatch]
  (repeat' split) <;> simp

@[simp] theorem State.takeMarker_frame (s : State) (m : MarkerLatch) :
    (s.takeMarker m).sweep = s.sweep ∧ (s.takeMarker m).cant = s.cant ∧
    (s.takeMarker m).comparator = s.comparator ∧ (s.takeMarker m).control = s.control ∧
    (s.takeMarker m).memory = s.memory ∧ (s.takeMarker m).lines = s.lines ∧ (s.takeMarker m).sent = s.sent ∧
    (s.takeMarker m).hostRead = s.hostRead ∧ (s.takeMarker m).freeIndex = s.freeIndex ∧
    (s.takeMarker m).pending = s.pending := by
  simp only [State.takeMarker]
  (repeat' split) <;> simp

@[simp] theorem State.endCommit_frame (s : State) (k : Commit) :
    (s.endCommit k).chainage = s.chainage ∧ (s.endCommit k).cant = s.cant ∧
    (s.endCommit k).evaluator = s.evaluator ∧ (s.endCommit k).comparator = s.comparator ∧
    (s.endCommit k).loader = s.loader ∧ (s.endCommit k).sheets = s.sheets ∧ (s.endCommit k).notices = s.notices ∧
    (s.endCommit k).control = s.control ∧ (s.endCommit k).port = s.port ∧ (s.endCommit k).memory = s.memory ∧
    (s.endCommit k).lines = s.lines ∧ (s.endCommit k).sent = s.sent ∧ (s.endCommit k).hostRead = s.hostRead ∧
    (s.endCommit k).positionDue = s.positionDue ∧ (s.endCommit k).freeIndex = s.freeIndex ∧
    (s.endCommit k).pending = s.pending := by
  simp only [State.endCommit]
  (repeat' split) <;> simp

@[simp] theorem State.raiseAlert_frame (s : State) (n : Int) (m : ClearanceSummary) (d : Nat × Option Int) :
    (s.raiseAlert n m d).sweep = s.sweep ∧ (s.raiseAlert n m d).chainage = s.chainage ∧
    (s.raiseAlert n m d).cant = s.cant ∧ (s.raiseAlert n m d).accumulator = s.accumulator ∧
    (s.raiseAlert n m d).evaluator = s.evaluator ∧ (s.raiseAlert n m d).comparator = s.comparator ∧
    (s.raiseAlert n m d).loader = s.loader ∧ (s.raiseAlert n m d).sheets = s.sheets ∧
    (s.raiseAlert n m d).control = s.control ∧ (s.raiseAlert n m d).port = s.port ∧
    (s.raiseAlert n m d).memory = s.memory ∧ (s.raiseAlert n m d).lines = s.lines ∧
    (s.raiseAlert n m d).sent = s.sent ∧ (s.raiseAlert n m d).hostRead = s.hostRead ∧
    (s.raiseAlert n m d).positionDue = s.positionDue ∧ (s.raiseAlert n m d).freeIndex = s.freeIndex ∧
    (s.raiseAlert n m d).pending = s.pending := by
  simp only [State.raiseAlert]
  (repeat' split) <;> simp

@[simp] theorem State.comparatorIdle_frame (s : State) :
    s.comparatorIdle.sweep = s.sweep ∧ s.comparatorIdle.chainage = s.chainage ∧ s.comparatorIdle.cant = s.cant ∧
    s.comparatorIdle.accumulator = s.accumulator ∧ s.comparatorIdle.evaluator = s.evaluator ∧
    s.comparatorIdle.loader = s.loader ∧ s.comparatorIdle.sheets = s.sheets ∧
    s.comparatorIdle.notices = s.notices ∧ s.comparatorIdle.control = s.control ∧ s.comparatorIdle.port = s.port ∧
    s.comparatorIdle.memory = s.memory ∧ s.comparatorIdle.lines = s.lines ∧ s.comparatorIdle.sent = s.sent ∧
    s.comparatorIdle.hostRead = s.hostRead ∧ s.comparatorIdle.positionDue = s.positionDue ∧
    s.comparatorIdle.freeIndex = s.freeIndex ∧ s.comparatorIdle.pending = s.pending := by
  simp only [State.comparatorIdle]
  (repeat' split) <;> simp

@[simp] theorem State.release_frame (s : State) (i : BankId) (r : RailHandover) :
    (s.release i r).sweep = s.sweep ∧ (s.release i r).cant = s.cant ∧ (s.release i r).control = s.control ∧
    (s.release i r).memory = s.memory ∧ (s.release i r).lines = s.lines ∧ (s.release i r).sent = s.sent ∧
    (s.release i r).hostRead = s.hostRead ∧ (s.release i r).freeIndex = s.freeIndex ∧
    (s.release i r).pending = s.pending := by
  simp only [State.release]
  (repeat' split) <;> simp

@[simp] theorem State.takeForComparison_frame (s : State) (i : BankId) (r : RailHandover) :
    (s.takeForComparison i r).sweep = s.sweep ∧ (s.takeForComparison i r).chainage = s.chainage ∧
    (s.takeForComparison i r).cant = s.cant ∧ (s.takeForComparison i r).accumulator = s.accumulator ∧
    (s.takeForComparison i r).evaluator = s.evaluator ∧ (s.takeForComparison i r).loader = s.loader ∧
    (s.takeForComparison i r).sheets = s.sheets ∧ (s.takeForComparison i r).notices = s.notices ∧
    (s.takeForComparison i r).control = s.control ∧ (s.takeForComparison i r).port = s.port ∧
    (s.takeForComparison i r).memory = s.memory ∧ (s.takeForComparison i r).lines = s.lines ∧
    (s.takeForComparison i r).sent = s.sent ∧ (s.takeForComparison i r).hostRead = s.hostRead ∧
    (s.takeForComparison i r).positionDue = s.positionDue ∧ (s.takeForComparison i r).freeIndex = s.freeIndex ∧
    (s.takeForComparison i r).pending = s.pending := by
  simp only [State.takeForComparison]
  (repeat' split) <;> simp

@[simp] theorem State.decideBaseline_frame (s : State) (i : BankId) :
    (s.decideBaseline i).sweep = s.sweep ∧ (s.decideBaseline i).chainage = s.chainage ∧
    (s.decideBaseline i).cant = s.cant ∧ (s.decideBaseline i).evaluator = s.evaluator ∧
    (s.decideBaseline i).loader = s.loader ∧ (s.decideBaseline i).sheets = s.sheets ∧
    (s.decideBaseline i).notices = s.notices ∧ (s.decideBaseline i).control = s.control ∧
    (s.decideBaseline i).memory = s.memory ∧ (s.decideBaseline i).lines = s.lines ∧
    (s.decideBaseline i).sent = s.sent ∧ (s.decideBaseline i).hostRead = s.hostRead ∧
    (s.decideBaseline i).positionDue = s.positionDue ∧ (s.decideBaseline i).freeIndex = s.freeIndex ∧
    (s.decideBaseline i).pending = s.pending := by
  simp only [State.decideBaseline]
  (repeat' split) <;> simp

@[simp] theorem State.endEvaluation_frame (s : State) (i : BankId) :
    (s.endEvaluation i).sweep = s.sweep ∧ (s.endEvaluation i).chainage = s.chainage ∧
    (s.endEvaluation i).cant = s.cant ∧ (s.endEvaluation i).loader = s.loader ∧
    (s.endEvaluation i).sheets = s.sheets ∧ (s.endEvaluation i).notices = s.notices ∧
    (s.endEvaluation i).control = s.control ∧ (s.endEvaluation i).memory = s.memory ∧
    (s.endEvaluation i).lines = s.lines ∧ (s.endEvaluation i).sent = s.sent ∧
    (s.endEvaluation i).hostRead = s.hostRead ∧ (s.endEvaluation i).positionDue = s.positionDue ∧
    (s.endEvaluation i).freeIndex = s.freeIndex ∧ (s.endEvaluation i).pending = s.pending := by
  simp only [State.endEvaluation]
  (repeat' split) <;> simp

@[simp] theorem State.judgeBaseline_frame (s : State) :
    s.judgeBaseline.sweep = s.sweep ∧ s.judgeBaseline.chainage = s.chainage ∧ s.judgeBaseline.cant = s.cant ∧
    s.judgeBaseline.evaluator = s.evaluator ∧ s.judgeBaseline.loader = s.loader ∧
    s.judgeBaseline.sheets = s.sheets ∧ s.judgeBaseline.notices = s.notices ∧ s.judgeBaseline.control = s.control ∧
    s.judgeBaseline.port = s.port ∧ s.judgeBaseline.memory = s.memory ∧ s.judgeBaseline.lines = s.lines ∧
    s.judgeBaseline.sent = s.sent ∧ s.judgeBaseline.hostRead = s.hostRead ∧
    s.judgeBaseline.positionDue = s.positionDue ∧ s.judgeBaseline.freeIndex = s.freeIndex ∧
    s.judgeBaseline.pending = s.pending := by
  simp only [State.judgeBaseline]
  (repeat' split) <;> simp

@[simp] theorem State.baselineArrived_frame (s : State) (d : List Word) :
    (s.baselineArrived d).sweep = s.sweep ∧ (s.baselineArrived d).chainage = s.chainage ∧
    (s.baselineArrived d).cant = s.cant ∧ (s.baselineArrived d).evaluator = s.evaluator ∧
    (s.baselineArrived d).loader = s.loader ∧ (s.baselineArrived d).sheets = s.sheets ∧
    (s.baselineArrived d).notices = s.notices ∧ (s.baselineArrived d).control = s.control ∧
    (s.baselineArrived d).port = s.port ∧ (s.baselineArrived d).memory = s.memory ∧
    (s.baselineArrived d).lines = s.lines ∧ (s.baselineArrived d).sent = s.sent ∧
    (s.baselineArrived d).hostRead = s.hostRead ∧ (s.baselineArrived d).positionDue = s.positionDue ∧
    (s.baselineArrived d).freeIndex = s.freeIndex ∧ (s.baselineArrived d).pending = s.pending := by
  simp only [State.baselineArrived]
  (repeat' split) <;> simp

@[simp] theorem State.abandonStart_frame (s : State) :
    s.abandonStart.sweep = s.sweep ∧ s.abandonStart.cant = s.cant ∧ s.abandonStart.accumulator = s.accumulator ∧
    s.abandonStart.evaluator = s.evaluator ∧ s.abandonStart.comparator = s.comparator ∧
    s.abandonStart.loader = s.loader ∧ s.abandonStart.sheets = s.sheets ∧ s.abandonStart.notices = s.notices ∧
    s.abandonStart.port = s.port ∧ s.abandonStart.memory = s.memory ∧ s.abandonStart.lines = s.lines ∧
    s.abandonStart.sent = s.sent ∧ s.abandonStart.hostRead = s.hostRead ∧ s.abandonStart.freeIndex = s.freeIndex ∧
    s.abandonStart.pending = s.pending := by
  simp only [State.abandonStart]
  (repeat' split) <;> simp

@[simp] theorem State.refuseSetup_frame (s : State) (r : SetupRefusal) :
    (s.refuseSetup r).sweep = s.sweep ∧ (s.refuseSetup r).cant = s.cant ∧
    (s.refuseSetup r).accumulator = s.accumulator ∧ (s.refuseSetup r).evaluator = s.evaluator ∧
    (s.refuseSetup r).comparator = s.comparator ∧ (s.refuseSetup r).sheets = s.sheets ∧
    (s.refuseSetup r).port = s.port ∧ (s.refuseSetup r).memory = s.memory ∧ (s.refuseSetup r).lines = s.lines ∧
    (s.refuseSetup r).sent = s.sent ∧ (s.refuseSetup r).hostRead = s.hostRead ∧
    (s.refuseSetup r).freeIndex = s.freeIndex ∧ (s.refuseSetup r).pending = s.pending := by
  simp only [State.refuseSetup]
  (repeat' split) <;> simp

@[simp] theorem State.invalidateSets_frame (s : State) :
    s.invalidateSets.sweep = s.sweep ∧ s.invalidateSets.chainage = s.chainage ∧ s.invalidateSets.cant = s.cant ∧
    s.invalidateSets.accumulator = s.accumulator ∧ s.invalidateSets.evaluator = s.evaluator ∧
    s.invalidateSets.comparator = s.comparator ∧ s.invalidateSets.sheets = s.sheets ∧
    s.invalidateSets.notices = s.notices ∧ s.invalidateSets.control = s.control ∧ s.invalidateSets.port = s.port ∧
    s.invalidateSets.memory = s.memory ∧ s.invalidateSets.lines = s.lines ∧ s.invalidateSets.sent = s.sent ∧
    s.invalidateSets.hostRead = s.hostRead ∧ s.invalidateSets.positionDue = s.positionDue ∧
    s.invalidateSets.freeIndex = s.freeIndex ∧ s.invalidateSets.pending = s.pending := by
  simp only [State.invalidateSets]
  (repeat' split) <;> simp

@[simp] theorem State.loadStartPlan_frame (s : State) :
    s.loadStartPlan.sweep = s.sweep ∧ s.loadStartPlan.cant = s.cant ∧ s.loadStartPlan.accumulator = s.accumulator ∧
    s.loadStartPlan.evaluator = s.evaluator ∧ s.loadStartPlan.comparator = s.comparator ∧
    s.loadStartPlan.sheets = s.sheets ∧ s.loadStartPlan.memory = s.memory ∧ s.loadStartPlan.lines = s.lines ∧
    s.loadStartPlan.sent = s.sent ∧ s.loadStartPlan.hostRead = s.hostRead ∧
    s.loadStartPlan.freeIndex = s.freeIndex ∧ s.loadStartPlan.pending = s.pending := by
  simp only [State.loadStartPlan]
  (repeat' split) <;> simp

@[simp] theorem State.checkCalibration_frame (s : State) (o : Nat) (ws : List Word) :
    (s.checkCalibration o ws).sweep = s.sweep ∧ (s.checkCalibration o ws).cant = s.cant ∧
    (s.checkCalibration o ws).accumulator = s.accumulator ∧ (s.checkCalibration o ws).evaluator = s.evaluator ∧
    (s.checkCalibration o ws).comparator = s.comparator ∧ (s.checkCalibration o ws).sheets = s.sheets ∧
    (s.checkCalibration o ws).memory = s.memory ∧ (s.checkCalibration o ws).lines = s.lines ∧
    (s.checkCalibration o ws).sent = s.sent ∧ (s.checkCalibration o ws).hostRead = s.hostRead ∧
    (s.checkCalibration o ws).freeIndex = s.freeIndex ∧ (s.checkCalibration o ws).pending = s.pending := by
  simp only [State.checkCalibration]
  (repeat' split) <;> simp

@[simp] theorem State.calibrationArrived_frame (s : State) (ws : List Word) :
    (s.calibrationArrived ws).sweep = s.sweep ∧ (s.calibrationArrived ws).cant = s.cant ∧
    (s.calibrationArrived ws).accumulator = s.accumulator ∧ (s.calibrationArrived ws).evaluator = s.evaluator ∧
    (s.calibrationArrived ws).comparator = s.comparator ∧ (s.calibrationArrived ws).sheets = s.sheets ∧
    (s.calibrationArrived ws).memory = s.memory ∧ (s.calibrationArrived ws).lines = s.lines ∧
    (s.calibrationArrived ws).sent = s.sent ∧ (s.calibrationArrived ws).hostRead = s.hostRead ∧
    (s.calibrationArrived ws).freeIndex = s.freeIndex ∧ (s.calibrationArrived ws).pending = s.pending := by
  simp only [State.calibrationArrived]
  (repeat' split) <;> simp

@[simp] theorem State.beginCalibration_frame (s : State) :
    s.beginCalibration.sweep = s.sweep ∧ s.beginCalibration.cant = s.cant ∧
    s.beginCalibration.accumulator = s.accumulator ∧ s.beginCalibration.evaluator = s.evaluator ∧
    s.beginCalibration.comparator = s.comparator ∧ s.beginCalibration.sheets = s.sheets ∧
    s.beginCalibration.memory = s.memory ∧ s.beginCalibration.lines = s.lines ∧ s.beginCalibration.sent = s.sent ∧
    s.beginCalibration.hostRead = s.hostRead ∧ s.beginCalibration.freeIndex = s.freeIndex ∧
    s.beginCalibration.pending = s.pending := by
  simp only [State.beginCalibration]
  (repeat' split) <;> simp

@[simp] theorem State.headerArrived_frame (s : State) (ws : List Word) :
    (s.headerArrived ws).sweep = s.sweep ∧ (s.headerArrived ws).cant = s.cant ∧
    (s.headerArrived ws).accumulator = s.accumulator ∧ (s.headerArrived ws).evaluator = s.evaluator ∧
    (s.headerArrived ws).comparator = s.comparator ∧ (s.headerArrived ws).sheets = s.sheets ∧
    (s.headerArrived ws).memory = s.memory ∧ (s.headerArrived ws).lines = s.lines ∧
    (s.headerArrived ws).sent = s.sent ∧ (s.headerArrived ws).hostRead = s.hostRead ∧
    (s.headerArrived ws).freeIndex = s.freeIndex ∧ (s.headerArrived ws).pending = s.pending := by
  simp only [State.headerArrived]
  (repeat' split) <;> simp

@[simp] theorem State.initialiseChainage_frame (s : State) :
    s.initialiseChainage.sweep = s.sweep ∧ s.initialiseChainage.cant = s.cant ∧
    s.initialiseChainage.accumulator = s.accumulator ∧ s.initialiseChainage.evaluator = s.evaluator ∧
    s.initialiseChainage.comparator = s.comparator ∧ s.initialiseChainage.loader = s.loader ∧
    s.initialiseChainage.sheets = s.sheets ∧ s.initialiseChainage.notices = s.notices ∧
    s.initialiseChainage.control = s.control ∧ s.initialiseChainage.port = s.port ∧
    s.initialiseChainage.memory = s.memory ∧ s.initialiseChainage.lines = s.lines ∧
    s.initialiseChainage.sent = s.sent ∧ s.initialiseChainage.hostRead = s.hostRead ∧
    s.initialiseChainage.positionDue = s.positionDue ∧ s.initialiseChainage.freeIndex = s.freeIndex ∧
    s.initialiseChainage.pending = s.pending := by
  simp only [State.initialiseChainage]
  (repeat' split) <;> simp

@[simp] theorem State.initialiseSheets_frame (s : State) (g : Geometry) :
    (s.initialiseSheets g).sweep = s.sweep ∧ (s.initialiseSheets g).chainage = s.chainage ∧
    (s.initialiseSheets g).cant = s.cant ∧ (s.initialiseSheets g).accumulator = s.accumulator ∧
    (s.initialiseSheets g).evaluator = s.evaluator ∧ (s.initialiseSheets g).comparator = s.comparator ∧
    (s.initialiseSheets g).loader = s.loader ∧ (s.initialiseSheets g).control = s.control ∧
    (s.initialiseSheets g).memory = s.memory ∧ (s.initialiseSheets g).lines = s.lines ∧
    (s.initialiseSheets g).sent = s.sent ∧ (s.initialiseSheets g).hostRead = s.hostRead ∧
    (s.initialiseSheets g).positionDue = s.positionDue ∧ (s.initialiseSheets g).freeIndex = s.freeIndex ∧
    (s.initialiseSheets g).pending = s.pending := by
  simp only [State.initialiseSheets]
  (repeat' split) <;> simp

@[simp] theorem State.initialiseBlocks_frame (s : State) :
    s.initialiseBlocks.sweep = s.sweep ∧ s.initialiseBlocks.cant = s.cant ∧
    s.initialiseBlocks.evaluator = s.evaluator ∧ s.initialiseBlocks.comparator = s.comparator ∧
    s.initialiseBlocks.loader = s.loader ∧ s.initialiseBlocks.memory = s.memory ∧
    s.initialiseBlocks.lines = s.lines ∧ s.initialiseBlocks.sent = s.sent ∧
    s.initialiseBlocks.hostRead = s.hostRead ∧ s.initialiseBlocks.positionDue = s.positionDue ∧
    s.initialiseBlocks.freeIndex = s.freeIndex ∧ s.initialiseBlocks.pending = s.pending := by
  simp only [State.initialiseBlocks]
  (repeat' split) <;> simp

@[simp] theorem State.copyArrived_frame (s : State) (t : SetId) (ws : List Word) :
    (s.copyArrived t ws).sweep = s.sweep ∧ (s.copyArrived t ws).chainage = s.chainage ∧
    (s.copyArrived t ws).cant = s.cant ∧ (s.copyArrived t ws).accumulator = s.accumulator ∧
    (s.copyArrived t ws).evaluator = s.evaluator ∧ (s.copyArrived t ws).comparator = s.comparator ∧
    (s.copyArrived t ws).sheets = s.sheets ∧ (s.copyArrived t ws).notices = s.notices ∧
    (s.copyArrived t ws).control = s.control ∧ (s.copyArrived t ws).port = s.port ∧
    (s.copyArrived t ws).memory = s.memory ∧ (s.copyArrived t ws).lines = s.lines ∧
    (s.copyArrived t ws).sent = s.sent ∧ (s.copyArrived t ws).hostRead = s.hostRead ∧
    (s.copyArrived t ws).positionDue = s.positionDue ∧ (s.copyArrived t ws).freeIndex = s.freeIndex ∧
    (s.copyArrived t ws).pending = s.pending := by
  simp [State.copyArrived]

@[simp] theorem State.loadPassed_frame (s : State) (t : SetId) (o : Nat) (ws : List Word) :
    (s.loadPassed t o ws).sweep = s.sweep ∧ (s.loadPassed t o ws).cant = s.cant ∧
    (s.loadPassed t o ws).evaluator = s.evaluator ∧ (s.loadPassed t o ws).comparator = s.comparator ∧
    (s.loadPassed t o ws).memory = s.memory ∧ (s.loadPassed t o ws).lines = s.lines ∧
    (s.loadPassed t o ws).sent = s.sent ∧ (s.loadPassed t o ws).hostRead = s.hostRead ∧
    (s.loadPassed t o ws).positionDue = s.positionDue ∧ (s.loadPassed t o ws).freeIndex = s.freeIndex ∧
    (s.loadPassed t o ws).pending = s.pending := by
  simp only [State.loadPassed]
  (repeat' split) <;> simp

@[simp] theorem State.askPlan_frame (s : State) (t : SetId) (o : Nat) (p : LoadPhase) (q : Purpose) (ws : List Word) (n : Nat) :
    (s.askPlan t o p q ws n).sweep = s.sweep ∧ (s.askPlan t o p q ws n).chainage = s.chainage ∧
    (s.askPlan t o p q ws n).cant = s.cant ∧ (s.askPlan t o p q ws n).accumulator = s.accumulator ∧
    (s.askPlan t o p q ws n).evaluator = s.evaluator ∧ (s.askPlan t o p q ws n).comparator = s.comparator ∧
    (s.askPlan t o p q ws n).sheets = s.sheets ∧ (s.askPlan t o p q ws n).notices = s.notices ∧
    (s.askPlan t o p q ws n).control = s.control ∧ (s.askPlan t o p q ws n).memory = s.memory ∧
    (s.askPlan t o p q ws n).lines = s.lines ∧ (s.askPlan t o p q ws n).sent = s.sent ∧
    (s.askPlan t o p q ws n).hostRead = s.hostRead ∧ (s.askPlan t o p q ws n).positionDue = s.positionDue ∧
    (s.askPlan t o p q ws n).freeIndex = s.freeIndex ∧ (s.askPlan t o p q ws n).pending = s.pending := by
  simp only [State.askPlan]
  (repeat' split) <;> simp

@[simp] theorem State.planHeaderArrived_frame (s : State) (t : SetId) (o : Nat) (ws : List Word) :
    (s.planHeaderArrived t o ws).sweep = s.sweep ∧ (s.planHeaderArrived t o ws).cant = s.cant ∧
    (s.planHeaderArrived t o ws).accumulator = s.accumulator ∧
    (s.planHeaderArrived t o ws).evaluator = s.evaluator ∧ (s.planHeaderArrived t o ws).comparator = s.comparator ∧
    (s.planHeaderArrived t o ws).sheets = s.sheets ∧ (s.planHeaderArrived t o ws).memory = s.memory ∧
    (s.planHeaderArrived t o ws).lines = s.lines ∧ (s.planHeaderArrived t o ws).sent = s.sent ∧
    (s.planHeaderArrived t o ws).hostRead = s.hostRead ∧ (s.planHeaderArrived t o ws).freeIndex = s.freeIndex ∧
    (s.planHeaderArrived t o ws).pending = s.pending := by
  simp only [State.planHeaderArrived]
  (repeat' split) <;> simp

@[simp] theorem State.planArraysArrived_frame (s : State) (t : SetId) (o : Nat) (ws : List Word) :
    (s.planArraysArrived t o ws).sweep = s.sweep ∧ (s.planArraysArrived t o ws).cant = s.cant ∧
    (s.planArraysArrived t o ws).evaluator = s.evaluator ∧ (s.planArraysArrived t o ws).comparator = s.comparator ∧
    (s.planArraysArrived t o ws).memory = s.memory ∧ (s.planArraysArrived t o ws).lines = s.lines ∧
    (s.planArraysArrived t o ws).sent = s.sent ∧ (s.planArraysArrived t o ws).hostRead = s.hostRead ∧
    (s.planArraysArrived t o ws).freeIndex = s.freeIndex ∧ (s.planArraysArrived t o ws).pending = s.pending := by
  simp only [State.planArraysArrived]
  (repeat' split) <;> simp

@[simp] theorem State.planArrived_frame (s : State) (ws : List Word) :
    (s.planArrived ws).sweep = s.sweep ∧ (s.planArrived ws).cant = s.cant ∧
    (s.planArrived ws).evaluator = s.evaluator ∧ (s.planArrived ws).comparator = s.comparator ∧
    (s.planArrived ws).memory = s.memory ∧ (s.planArrived ws).lines = s.lines ∧ (s.planArrived ws).sent = s.sent ∧
    (s.planArrived ws).hostRead = s.hostRead ∧ (s.planArrived ws).freeIndex = s.freeIndex ∧
    (s.planArrived ws).pending = s.pending := by
  simp only [State.planArrived]
  (repeat' split) <;> simp

@[simp] theorem State.openIntake_frame (s : State) :
    s.openIntake.chainage = s.chainage ∧ s.openIntake.accumulator = s.accumulator ∧
    s.openIntake.evaluator = s.evaluator ∧ s.openIntake.comparator = s.comparator ∧
    s.openIntake.loader = s.loader ∧ s.openIntake.sheets = s.sheets ∧ s.openIntake.control = s.control ∧
    s.openIntake.port = s.port ∧ s.openIntake.memory = s.memory ∧ s.openIntake.lines = s.lines ∧
    s.openIntake.sent = s.sent ∧ s.openIntake.hostRead = s.hostRead ∧ s.openIntake.positionDue = s.positionDue ∧
    s.openIntake.freeIndex = s.freeIndex ∧ s.openIntake.pending = s.pending := by
  simp only [State.openIntake]
  (repeat' split) <;> simp

@[simp] theorem State.openFirstStation_frame (s : State) :
    s.openFirstStation.sweep = s.sweep ∧ s.openFirstStation.cant = s.cant ∧
    s.openFirstStation.evaluator = s.evaluator ∧ s.openFirstStation.comparator = s.comparator ∧
    s.openFirstStation.control = s.control ∧ s.openFirstStation.memory = s.memory ∧
    s.openFirstStation.lines = s.lines ∧ s.openFirstStation.sent = s.sent ∧
    s.openFirstStation.hostRead = s.hostRead ∧ s.openFirstStation.freeIndex = s.freeIndex ∧
    s.openFirstStation.pending = s.pending := by
  simp only [State.openFirstStation]
  (repeat' split) <;> simp

@[simp] theorem State.beginDraining_frame (s : State) :
    s.beginDraining.sweep = s.sweep ∧ s.beginDraining.chainage = s.chainage ∧ s.beginDraining.cant = s.cant ∧
    s.beginDraining.accumulator = s.accumulator ∧ s.beginDraining.evaluator = s.evaluator ∧
    s.beginDraining.comparator = s.comparator ∧ s.beginDraining.loader = s.loader ∧
    s.beginDraining.control = s.control ∧ s.beginDraining.memory = s.memory ∧ s.beginDraining.lines = s.lines ∧
    s.beginDraining.sent = s.sent ∧ s.beginDraining.hostRead = s.hostRead ∧
    s.beginDraining.positionDue = s.positionDue ∧ s.beginDraining.freeIndex = s.freeIndex ∧
    s.beginDraining.pending = s.pending := by
  simp only [State.beginDraining]
  (repeat' split) <;> simp

@[simp] theorem State.completeStart_frame (s : State) :
    s.completeStart.evaluator = s.evaluator ∧ s.completeStart.comparator = s.comparator ∧
    s.completeStart.memory = s.memory ∧ s.completeStart.lines = s.lines ∧ s.completeStart.hostRead = s.hostRead ∧
    s.completeStart.freeIndex = s.freeIndex ∧ s.completeStart.pending = s.pending := by
  simp only [State.completeStart]
  (repeat' split) <;> simp

@[simp] theorem State.endInitialising_frame (s : State) :
    s.endInitialising.evaluator = s.evaluator ∧ s.endInitialising.comparator = s.comparator ∧
    s.endInitialising.memory = s.memory ∧ s.endInitialising.lines = s.lines ∧
    s.endInitialising.hostRead = s.hostRead ∧ s.endInitialising.freeIndex = s.freeIndex ∧
    s.endInitialising.pending = s.pending := by
  simp only [State.endInitialising]
  (repeat' split) <;> simp

@[simp] theorem State.admitWaitingEnd_frame (s : State) :
    s.admitWaitingEnd.sweep = s.sweep ∧ s.admitWaitingEnd.chainage = s.chainage ∧ s.admitWaitingEnd.cant = s.cant ∧
    s.admitWaitingEnd.accumulator = s.accumulator ∧ s.admitWaitingEnd.evaluator = s.evaluator ∧
    s.admitWaitingEnd.comparator = s.comparator ∧ s.admitWaitingEnd.loader = s.loader ∧
    s.admitWaitingEnd.control = s.control ∧ s.admitWaitingEnd.memory = s.memory ∧
    s.admitWaitingEnd.lines = s.lines ∧ s.admitWaitingEnd.sent = s.sent ∧ s.admitWaitingEnd.hostRead = s.hostRead ∧
    s.admitWaitingEnd.freeIndex = s.freeIndex ∧ s.admitWaitingEnd.pending = s.pending := by
  simp only [State.admitWaitingEnd]
  (repeat' split) <;> simp

@[simp] theorem State.recordWritten_frame (s : State) :
    s.recordWritten.sweep = s.sweep ∧ s.recordWritten.chainage = s.chainage ∧ s.recordWritten.cant = s.cant ∧
    s.recordWritten.accumulator = s.accumulator ∧ s.recordWritten.evaluator = s.evaluator ∧
    s.recordWritten.comparator = s.comparator ∧ s.recordWritten.loader = s.loader ∧
    s.recordWritten.control = s.control ∧ s.recordWritten.memory = s.memory ∧ s.recordWritten.lines = s.lines ∧
    s.recordWritten.sent = s.sent ∧ s.recordWritten.hostRead = s.hostRead ∧
    s.recordWritten.freeIndex = s.freeIndex ∧ s.recordWritten.pending = s.pending := by
  simp only [State.recordWritten]
  (repeat' split) <;> simp

@[simp] theorem State.stopWritten_frame (s : State) :
    s.stopWritten.cant = s.cant ∧ s.stopWritten.accumulator = s.accumulator ∧
    s.stopWritten.evaluator = s.evaluator ∧ s.stopWritten.comparator = s.comparator ∧
    s.stopWritten.memory = s.memory ∧ s.stopWritten.lines = s.lines ∧ s.stopWritten.hostRead = s.hostRead ∧
    s.stopWritten.freeIndex = s.freeIndex ∧ s.stopWritten.pending = s.pending := by
  simp only [State.stopWritten]
  (repeat' split) <;> simp

@[simp] theorem State.beginHeld_frame (s : State) :
    s.beginHeld.cant = s.cant ∧ s.beginHeld.accumulator = s.accumulator ∧ s.beginHeld.evaluator = s.evaluator ∧
    s.beginHeld.comparator = s.comparator ∧ s.beginHeld.memory = s.memory ∧ s.beginHeld.lines = s.lines ∧
    s.beginHeld.hostRead = s.hostRead ∧ s.beginHeld.freeIndex = s.freeIndex ∧ s.beginHeld.pending = s.pending := by
  simp only [State.beginHeld]
  (repeat' split) <;> simp

@[simp] theorem State.closeWritten_frame (s : State) :
    s.closeWritten.cant = s.cant ∧ s.closeWritten.accumulator = s.accumulator ∧
    s.closeWritten.evaluator = s.evaluator ∧ s.closeWritten.comparator = s.comparator ∧
    s.closeWritten.memory = s.memory ∧ s.closeWritten.lines = s.lines ∧ s.closeWritten.hostRead = s.hostRead ∧
    s.closeWritten.freeIndex = s.freeIndex ∧ s.closeWritten.pending = s.pending := by
  simp only [State.closeWritten]
  (repeat' split) <;> simp

@[simp] theorem State.endGrant_frame (s : State) (g : Grant) :
    (s.endGrant g).sweep = s.sweep ∧ (s.endGrant g).chainage = s.chainage ∧ (s.endGrant g).cant = s.cant ∧
    (s.endGrant g).accumulator = s.accumulator ∧ (s.endGrant g).evaluator = s.evaluator ∧
    (s.endGrant g).comparator = s.comparator ∧ (s.endGrant g).loader = s.loader ∧
    (s.endGrant g).sheets = s.sheets ∧ (s.endGrant g).notices = s.notices ∧ (s.endGrant g).control = s.control ∧
    (s.endGrant g).lines = s.lines ∧ (s.endGrant g).sent = s.sent ∧ (s.endGrant g).hostRead = s.hostRead ∧
    (s.endGrant g).positionDue = s.positionDue ∧ (s.endGrant g).freeIndex = s.freeIndex ∧
    (s.endGrant g).pending = s.pending := by
  simp only [State.endGrant]
  (repeat' split) <;> simp

@[simp] theorem State.deliver_frame (s : State) (p : Purpose) (d : List Word) :
    (s.deliver p d).evaluator = s.evaluator ∧ (s.deliver p d).memory = s.memory ∧ (s.deliver p d).lines = s.lines ∧
    (s.deliver p d).hostRead = s.hostRead ∧ (s.deliver p d).freeIndex = s.freeIndex ∧
    (s.deliver p d).pending = s.pending := by
  simp only [State.deliver]
  (repeat' split) <;> simp

@[simp] theorem State.acceptStart_frame (s : State) (o : BitVec 24) :
    (s.acceptStart o).sweep = s.sweep ∧ (s.acceptStart o).chainage = s.chainage ∧ (s.acceptStart o).cant = s.cant ∧
    (s.acceptStart o).accumulator = s.accumulator ∧ (s.acceptStart o).evaluator = s.evaluator ∧
    (s.acceptStart o).comparator = s.comparator ∧ (s.acceptStart o).sheets = s.sheets ∧
    (s.acceptStart o).notices = s.notices ∧ (s.acceptStart o).memory = s.memory ∧
    (s.acceptStart o).lines = s.lines ∧ (s.acceptStart o).sent = s.sent ∧ (s.acceptStart o).hostRead = s.hostRead ∧
    (s.acceptStart o).positionDue = s.positionDue ∧ (s.acceptStart o).freeIndex = s.freeIndex ∧
    (s.acceptStart o).pending = s.pending := by
  simp only [State.acceptStart]
  (repeat' split) <;> simp

@[simp] theorem State.acceptPlan_frame (s : State) (o : BitVec 24) :
    (s.acceptPlan o).sweep = s.sweep ∧ (s.acceptPlan o).chainage = s.chainage ∧ (s.acceptPlan o).cant = s.cant ∧
    (s.acceptPlan o).accumulator = s.accumulator ∧ (s.acceptPlan o).evaluator = s.evaluator ∧
    (s.acceptPlan o).comparator = s.comparator ∧ (s.acceptPlan o).sheets = s.sheets ∧
    (s.acceptPlan o).control = s.control ∧ (s.acceptPlan o).memory = s.memory ∧ (s.acceptPlan o).lines = s.lines ∧
    (s.acceptPlan o).sent = s.sent ∧ (s.acceptPlan o).hostRead = s.hostRead ∧
    (s.acceptPlan o).positionDue = s.positionDue ∧ (s.acceptPlan o).freeIndex = s.freeIndex ∧
    (s.acceptPlan o).pending = s.pending := by
  simp only [State.acceptPlan]
  (repeat' split) <;> simp

@[simp] theorem State.endStarvation_frame (s : State) :
    s.endStarvation.sweep = s.sweep ∧ s.endStarvation.chainage = s.chainage ∧ s.endStarvation.cant = s.cant ∧
    s.endStarvation.accumulator = s.accumulator ∧ s.endStarvation.evaluator = s.evaluator ∧
    s.endStarvation.comparator = s.comparator ∧ s.endStarvation.loader = s.loader ∧
    s.endStarvation.control = s.control ∧ s.endStarvation.memory = s.memory ∧ s.endStarvation.lines = s.lines ∧
    s.endStarvation.sent = s.sent ∧ s.endStarvation.hostRead = s.hostRead ∧
    s.endStarvation.positionDue = s.positionDue ∧ s.endStarvation.freeIndex = s.freeIndex ∧
    s.endStarvation.pending = s.pending := by
  simp only [State.endStarvation]
  (repeat' split) <;> simp

@[simp] theorem State.holdReturned_frame (s : State) (n : Nat) :
    (s.holdReturned n).sweep = s.sweep ∧ (s.holdReturned n).chainage = s.chainage ∧
    (s.holdReturned n).cant = s.cant ∧ (s.holdReturned n).accumulator = s.accumulator ∧
    (s.holdReturned n).evaluator = s.evaluator ∧ (s.holdReturned n).comparator = s.comparator ∧
    (s.holdReturned n).loader = s.loader ∧ (s.holdReturned n).sheets = s.sheets ∧
    (s.holdReturned n).notices = s.notices ∧ (s.holdReturned n).control = s.control ∧
    (s.holdReturned n).memory = s.memory ∧ (s.holdReturned n).lines = s.lines ∧ (s.holdReturned n).sent = s.sent ∧
    (s.holdReturned n).hostRead = s.hostRead ∧ (s.holdReturned n).positionDue = s.positionDue ∧
    (s.holdReturned n).freeIndex = s.freeIndex ∧ (s.holdReturned n).pending = s.pending := by
  simp only [State.holdReturned]
  (repeat' split) <;> simp

@[simp] theorem State.acceptReturn_frame (s : State) (n : Nat) :
    (s.acceptReturn n).sweep = s.sweep ∧ (s.acceptReturn n).chainage = s.chainage ∧
    (s.acceptReturn n).cant = s.cant ∧ (s.acceptReturn n).accumulator = s.accumulator ∧
    (s.acceptReturn n).evaluator = s.evaluator ∧ (s.acceptReturn n).comparator = s.comparator ∧
    (s.acceptReturn n).loader = s.loader ∧ (s.acceptReturn n).control = s.control ∧
    (s.acceptReturn n).memory = s.memory ∧ (s.acceptReturn n).lines = s.lines ∧ (s.acceptReturn n).sent = s.sent ∧
    (s.acceptReturn n).hostRead = s.hostRead ∧ (s.acceptReturn n).positionDue = s.positionDue ∧
    (s.acceptReturn n).freeIndex = s.freeIndex ∧ (s.acceptReturn n).pending = s.pending := by
  simp only [State.acceptReturn]
  (repeat' split) <;> simp

@[simp] theorem State.judgeReturn_frame (s : State) (n : Nat) :
    (s.judgeReturn n).sweep = s.sweep ∧ (s.judgeReturn n).chainage = s.chainage ∧ (s.judgeReturn n).cant = s.cant ∧
    (s.judgeReturn n).accumulator = s.accumulator ∧ (s.judgeReturn n).evaluator = s.evaluator ∧
    (s.judgeReturn n).comparator = s.comparator ∧ (s.judgeReturn n).loader = s.loader ∧
    (s.judgeReturn n).memory = s.memory ∧ (s.judgeReturn n).lines = s.lines ∧ (s.judgeReturn n).sent = s.sent ∧
    (s.judgeReturn n).hostRead = s.hostRead ∧ (s.judgeReturn n).freeIndex = s.freeIndex ∧
    (s.judgeReturn n).pending = s.pending := by
  simp only [State.judgeReturn]
  (repeat' split) <;> simp

@[simp] theorem State.closeCutShort_frame (s : State) :
    s.closeCutShort.sweep = s.sweep ∧ s.closeCutShort.chainage = s.chainage ∧ s.closeCutShort.cant = s.cant ∧
    s.closeCutShort.evaluator = s.evaluator ∧ s.closeCutShort.comparator = s.comparator ∧
    s.closeCutShort.loader = s.loader ∧ s.closeCutShort.sheets = s.sheets ∧ s.closeCutShort.notices = s.notices ∧
    s.closeCutShort.control = s.control ∧ s.closeCutShort.port = s.port ∧ s.closeCutShort.memory = s.memory ∧
    s.closeCutShort.lines = s.lines ∧ s.closeCutShort.sent = s.sent ∧ s.closeCutShort.hostRead = s.hostRead ∧
    s.closeCutShort.positionDue = s.positionDue ∧ s.closeCutShort.freeIndex = s.freeIndex ∧
    s.closeCutShort.pending = s.pending := by
  simp only [State.closeCutShort]
  (repeat' split) <;> simp

@[simp] theorem State.acceptStopFinish_frame (s : State) :
    s.acceptStopFinish.comparator = s.comparator ∧ s.acceptStopFinish.memory = s.memory ∧
    s.acceptStopFinish.lines = s.lines ∧ s.acceptStopFinish.sent = s.sent ∧
    s.acceptStopFinish.hostRead = s.hostRead ∧ s.acceptStopFinish.freeIndex = s.freeIndex ∧
    s.acceptStopFinish.pending = s.pending := by
  simp only [State.acceptStopFinish]
  (repeat' split) <;> simp

@[simp] theorem State.withdrawRecord_frame (s : State) :
    s.withdrawRecord.sweep = s.sweep ∧ s.withdrawRecord.chainage = s.chainage ∧ s.withdrawRecord.cant = s.cant ∧
    s.withdrawRecord.accumulator = s.accumulator ∧ s.withdrawRecord.evaluator = s.evaluator ∧
    s.withdrawRecord.comparator = s.comparator ∧ s.withdrawRecord.loader = s.loader ∧
    s.withdrawRecord.sheets = s.sheets ∧ s.withdrawRecord.notices = s.notices ∧
    s.withdrawRecord.control = s.control ∧ s.withdrawRecord.memory = s.memory ∧ s.withdrawRecord.lines = s.lines ∧
    s.withdrawRecord.sent = s.sent ∧ s.withdrawRecord.hostRead = s.hostRead ∧
    s.withdrawRecord.positionDue = s.positionDue ∧ s.withdrawRecord.freeIndex = s.freeIndex ∧
    s.withdrawRecord.pending = s.pending := by
  simp only [State.withdrawRecord]
  (repeat' split) <;> simp

@[simp] theorem State.clearQueue_frame (s : State) :
    s.clearQueue.sweep = s.sweep ∧ s.clearQueue.chainage = s.chainage ∧ s.clearQueue.cant = s.cant ∧
    s.clearQueue.accumulator = s.accumulator ∧ s.clearQueue.evaluator = s.evaluator ∧
    s.clearQueue.comparator = s.comparator ∧ s.clearQueue.loader = s.loader ∧ s.clearQueue.control = s.control ∧
    s.clearQueue.memory = s.memory ∧ s.clearQueue.lines = s.lines ∧ s.clearQueue.sent = s.sent ∧
    s.clearQueue.hostRead = s.hostRead ∧ s.clearQueue.freeIndex = s.freeIndex ∧
    s.clearQueue.pending = s.pending := by
  simp only [State.clearQueue]
  (repeat' split) <;> simp

@[simp] theorem State.dropWork_frame (s : State) :
    s.dropWork.memory = s.memory ∧ s.dropWork.lines = s.lines ∧ s.dropWork.sent = s.sent ∧
    s.dropWork.hostRead = s.hostRead ∧ s.dropWork.pending = s.pending := by
  simp only [State.dropWork]
  (repeat' split) <;> simp

@[simp] theorem State.escalateStop_frame (s : State) :
    s.escalateStop.memory = s.memory ∧ s.escalateStop.lines = s.lines ∧ s.escalateStop.sent = s.sent ∧
    s.escalateStop.hostRead = s.hostRead ∧ s.escalateStop.pending = s.pending := by
  simp only [State.escalateStop]
  (repeat' split) <;> simp

end Sys2Proof.Machine
end

