-- ==== Sys2Proof/Laws/State.lean ====
section
/-! SUPPORT. One lemma for each field after each update: what the small updates of the state leave in every field of the
block they write, each true by unfolding. Reads of a numbered part after a write of one stand first. -/
namespace Sys2Proof.Machine

@[simp] theorem State.bank_setBank (s : State) (i : BankId) (b : Bank) : (s.setBank i b).bank i = b := by
  cases i <;> rfl

@[simp] theorem State.bank_setBank_other (s : State) (i : BankId) (b : Bank) :
    (s.setBank i b).bank i.other = s.bank i.other := by
  cases i <;> rfl

theorem State.bank_setBank_ne (s : State) {i j : BankId} (b : Bank) (h : j ≠ i) : (s.setBank i b).bank j = s.bank j := by
  cases i <;> cases j <;> first | rfl | exact absurd rfl h

@[simp] theorem State.setBank_commit (s : State) (i : BankId) (b : Bank) :
    (s.setBank i b).accumulator.commit = s.accumulator.commit := by
  cases i <;> rfl

@[simp] theorem State.setBank_evaluationOrder (s : State) (i : BankId) (b : Bank) :
    (s.setBank i b).accumulator.evaluationOrder = s.accumulator.evaluationOrder := by
  cases i <;> rfl

@[simp] theorem State.setBank_openingCounter (s : State) (i : BankId) (b : Bank) :
    (s.setBank i b).accumulator.openingCounter = s.accumulator.openingCounter := by
  cases i <;> rfl

@[simp] theorem BankId.other_other (i : BankId) : i.other.other = i := by
  cases i <;> rfl

theorem BankId.other_ne (i : BankId) : i.other ≠ i := by
  cases i <;> decide

theorem BankId.eq_or_other (i j : BankId) : j = i ∨ j = i.other := by
  cases i <;> cases j <;> decide

@[simp] theorem State.buffer_setBuffer (s : State) (i : BufferId) (x : RevolutionBuffer) :
    (s.setBuffer i x).buffer i = x := by
  cases i <;> rfl

theorem State.buffer_setBuffer_ne (s : State) {i j : BufferId} (x : RevolutionBuffer) (h : j ≠ i) :
    (s.setBuffer i x).buffer j = s.buffer j := by
  cases i <;> cases j <;> first | rfl | exact absurd rfl h

@[simp] theorem State.planSet_setPlanSet (s : State) (i : SetId) (p : PlanSet) : (s.setPlanSet i p).planSet i = p := by
  cases i <;> rfl

theorem State.planSet_setPlanSet_ne (s : State) {i j : SetId} (p : PlanSet) (h : j ≠ i) :
    (s.setPlanSet i p).planSet j = s.planSet j := by
  cases i <;> cases j <;> first | rfl | exact absurd rfl h

@[simp] theorem State.setPlanSet_load (s : State) (i : SetId) (p : PlanSet) :
    (s.setPlanSet i p).loader.load = s.loader.load := by
  cases i <;> rfl

@[simp] theorem State.setPlanSet_calibration (s : State) (i : SetId) (p : PlanSet) :
    (s.setPlanSet i p).loader.calibration = s.loader.calibration := by
  cases i <;> rfl

@[simp] theorem State.callPosition_positionDue (s : State) : s.callPosition.positionDue = true := rfl

@[simp] theorem State.setBuffer_intake (s : State) (i : BufferId) (x : RevolutionBuffer) :
    (s.setBuffer i x).sweep.intake = s.sweep.intake := by
  cases i <;> rfl

@[simp] theorem State.setBuffer_receiver (s : State) (i : BufferId) (x : RevolutionBuffer) :
    (s.setBuffer i x).sweep.receiver = s.sweep.receiver := by
  cases i <;> rfl

@[simp] theorem State.setBuffer_current (s : State) (i : BufferId) (x : RevolutionBuffer) :
    (s.setBuffer i x).sweep.current = s.sweep.current := by
  cases i <;> rfl

@[simp] theorem State.setBuffer_handover (s : State) (i : BufferId) (x : RevolutionBuffer) :
    (s.setBuffer i x).sweep.handover = s.sweep.handover := by
  cases i <;> rfl

@[simp] theorem State.setBuffer_lastGood (s : State) (i : BufferId) (x : RevolutionBuffer) :
    (s.setBuffer i x).sweep.lastGood = s.sweep.lastGood := by
  cases i <;> rfl

@[simp] theorem State.setBuffer_markTimer (s : State) (i : BufferId) (x : RevolutionBuffer) :
    (s.setBuffer i x).sweep.markTimer = s.sweep.markTimer := by
  cases i <;> rfl

@[simp] theorem State.setBuffer_latch (s : State) (i : BufferId) (x : RevolutionBuffer) :
    (s.setBuffer i x).sweep.latch = s.sweep.latch := by
  cases i <;> rfl

@[simp] theorem State.setBuffer_runFaults (s : State) (i : BufferId) (x : RevolutionBuffer) :
    (s.setBuffer i x).sweep.runFaults = s.sweep.runFaults := by
  cases i <;> rfl

@[simp] theorem State.setBuffer_lastCommand (s : State) (i : BufferId) (x : RevolutionBuffer) :
    (s.setBuffer i x).sweep.lastCommand = s.sweep.lastCommand := by
  cases i <;> rfl

@[simp] theorem State.recordPost_survey (s : State) (k : BitVec 8) (r : PostResult) :
    (s.recordPost k r).control.survey = s.control.survey := rfl

@[simp] theorem State.recordPost_startPhase (s : State) (k : BitVec 8) (r : PostResult) :
    (s.recordPost k r).control.startPhase = s.control.startPhase := rfl

@[simp] theorem State.recordPost_stopPhase (s : State) (k : BitVec 8) (r : PostResult) :
    (s.recordPost k r).control.stopPhase = s.control.stopPhase := rfl

@[simp] theorem State.recordPost_stopMode (s : State) (k : BitVec 8) (r : PostResult) :
    (s.recordPost k r).control.stopMode = s.control.stopMode := rfl

@[simp] theorem State.recordPost_planOffset (s : State) (k : BitVec 8) (r : PostResult) :
    (s.recordPost k r).control.planOffset = s.control.planOffset := rfl

@[simp] theorem State.recordPost_geometry (s : State) (k : BitVec 8) (r : PostResult) :
    (s.recordPost k r).control.geometry = s.control.geometry := rfl

@[simp] theorem State.recordPost_lastKind (s : State) (k : BitVec 8) (r : PostResult) :
    (s.recordPost k r).control.lastKind = k := rfl

@[simp] theorem State.recordPost_lastResult (s : State) (k : BitVec 8) (r : PostResult) :
    (s.recordPost k r).control.lastResult = r := rfl

@[simp] theorem State.recordPost_area (s : State) (k : BitVec 8) (r : PostResult) :
    (s.recordPost k r).control.area = s.control.area := rfl

@[simp] theorem State.recordPost_interruptEnable (s : State) (k : BitVec 8) (r : PostResult) :
    (s.recordPost k r).control.interruptEnable = s.control.interruptEnable := rfl

@[simp] theorem State.leaveSurveying_mode (s : State) (m : ChainageMode) :
    (s.leaveSurveying m).chainage.mode = m := rfl

@[simp] theorem State.leaveSurveying_chainage (s : State) (m : ChainageMode) :
    (s.leaveSurveying m).chainage.chainage = s.chainage.chainage := rfl

@[simp] theorem State.leaveSurveying_peak (s : State) (m : ChainageMode) :
    (s.leaveSurveying m).chainage.peak = s.chainage.peak := rfl

@[simp] theorem State.leaveSurveying_tracker (s : State) (m : ChainageMode) :
    (s.leaveSurveying m).chainage.tracker = s.chainage.tracker := rfl

@[simp] theorem State.leaveSurveying_lineReference (s : State) (m : ChainageMode) :
    (s.leaveSurveying m).chainage.lineReference = s.chainage.lineReference := rfl

@[simp] theorem State.leaveSurveying_openStation (s : State) (m : ChainageMode) :
    (s.leaveSurveying m).chainage.openStation = none := rfl

@[simp] theorem State.leaveSurveying_marker (s : State) (m : ChainageMode) :
    (s.leaveSurveying m).chainage.marker = none := rfl

@[simp] theorem State.shutIntake_intake (s : State) :
    s.shutIntake.sweep.intake = .closed := rfl

@[simp] theorem State.shutIntake_receiver (s : State) :
    s.shutIntake.sweep.receiver = .waiting := rfl

@[simp] theorem State.shutIntake_bufferA (s : State) :
    s.shutIntake.sweep.bufferA = s.sweep.bufferA := rfl

@[simp] theorem State.shutIntake_bufferB (s : State) :
    s.shutIntake.sweep.bufferB = s.sweep.bufferB := rfl

@[simp] theorem State.shutIntake_current (s : State) :
    s.shutIntake.sweep.current = s.sweep.current := rfl

@[simp] theorem State.shutIntake_handover (s : State) :
    s.shutIntake.sweep.handover = s.sweep.handover := rfl

@[simp] theorem State.shutIntake_lastGood (s : State) :
    s.shutIntake.sweep.lastGood = s.sweep.lastGood := rfl

@[simp] theorem State.shutIntake_markTimer (s : State) :
    s.shutIntake.sweep.markTimer = false := rfl

@[simp] theorem State.shutIntake_latch (s : State) :
    s.shutIntake.sweep.latch = s.sweep.latch := rfl

@[simp] theorem State.shutIntake_runFaults (s : State) :
    s.shutIntake.sweep.runFaults = s.sweep.runFaults := rfl

@[simp] theorem State.shutIntake_lastCommand (s : State) :
    s.shutIntake.sweep.lastCommand = s.sweep.lastCommand := rfl

@[simp] theorem State.shutIntake_history (s : State) :
    s.shutIntake.cant.history = s.cant.history := rfl

@[simp] theorem State.shutIntake_failures (s : State) :
    s.shutIntake.cant.failures = s.cant.failures := rfl

@[simp] theorem State.shutIntake_readInFlight (s : State) :
    s.shutIntake.cant.readInFlight = false := rfl

@[simp] theorem State.shutIntakeEmptied_intake (s : State) :
    s.shutIntakeEmptied.sweep.intake = .closed := rfl

@[simp] theorem State.shutIntakeEmptied_receiver (s : State) :
    s.shutIntakeEmptied.sweep.receiver = .waiting := rfl

@[simp] theorem State.shutIntakeEmptied_bufferA (s : State) :
    s.shutIntakeEmptied.sweep.bufferA = .reset := rfl

@[simp] theorem State.shutIntakeEmptied_bufferB (s : State) :
    s.shutIntakeEmptied.sweep.bufferB = .reset := rfl

@[simp] theorem State.shutIntakeEmptied_current (s : State) :
    s.shutIntakeEmptied.sweep.current = none := rfl

@[simp] theorem State.shutIntakeEmptied_handover (s : State) :
    s.shutIntakeEmptied.sweep.handover = [] := rfl

@[simp] theorem State.shutIntakeEmptied_lastGood (s : State) :
    s.shutIntakeEmptied.sweep.lastGood = s.sweep.lastGood := rfl

@[simp] theorem State.shutIntakeEmptied_markTimer (s : State) :
    s.shutIntakeEmptied.sweep.markTimer = false := rfl

@[simp] theorem State.shutIntakeEmptied_latch (s : State) :
    s.shutIntakeEmptied.sweep.latch = s.sweep.latch := rfl

@[simp] theorem State.shutIntakeEmptied_runFaults (s : State) :
    s.shutIntakeEmptied.sweep.runFaults = s.sweep.runFaults := rfl

@[simp] theorem State.shutIntakeEmptied_lastCommand (s : State) :
    s.shutIntakeEmptied.sweep.lastCommand = s.sweep.lastCommand := rfl

@[simp] theorem State.shutIntakeEmptied_history (s : State) :
    s.shutIntakeEmptied.cant.history = s.cant.history := rfl

@[simp] theorem State.shutIntakeEmptied_failures (s : State) :
    s.shutIntakeEmptied.cant.failures = s.cant.failures := rfl

@[simp] theorem State.shutIntakeEmptied_readInFlight (s : State) :
    s.shutIntakeEmptied.cant.readInFlight = false := rfl

@[simp] theorem State.sendRun_intake (s : State) :
    s.sendRun.sweep.intake = s.sweep.intake := rfl

@[simp] theorem State.sendRun_receiver (s : State) :
    s.sendRun.sweep.receiver = s.sweep.receiver := rfl

@[simp] theorem State.sendRun_bufferA (s : State) :
    s.sendRun.sweep.bufferA = s.sweep.bufferA := rfl

@[simp] theorem State.sendRun_bufferB (s : State) :
    s.sendRun.sweep.bufferB = s.sweep.bufferB := rfl

@[simp] theorem State.sendRun_current (s : State) :
    s.sendRun.sweep.current = s.sweep.current := rfl

@[simp] theorem State.sendRun_handover (s : State) :
    s.sendRun.sweep.handover = s.sweep.handover := rfl

@[simp] theorem State.sendRun_lastGood (s : State) :
    s.sendRun.sweep.lastGood = s.sweep.lastGood := rfl

@[simp] theorem State.sendRun_markTimer (s : State) :
    s.sendRun.sweep.markTimer = s.sweep.markTimer := rfl

@[simp] theorem State.sendRun_latch (s : State) :
    s.sendRun.sweep.latch = s.sweep.latch := rfl

@[simp] theorem State.sendRun_runFaults (s : State) :
    s.sendRun.sweep.runFaults = s.sweep.runFaults := rfl

@[simp] theorem State.sendRun_lastCommand (s : State) :
    s.sendRun.sweep.lastCommand = .run := rfl

@[simp] theorem State.raiseMarkerMismatch_fault (s : State) (a : BitVec 24) (p : Word) :
    (s.raiseMarkerMismatch a p).notices.fault = s.notices.fault := rfl

@[simp] theorem State.raiseMarkerMismatch_linkFault (s : State) (a : BitVec 24) (p : Word) :
    (s.raiseMarkerMismatch a p).notices.linkFault = s.notices.linkFault := rfl

@[simp] theorem State.raiseMarkerMismatch_alerts (s : State) (a : BitVec 24) (p : Word) :
    (s.raiseMarkerMismatch a p).notices.alerts = s.notices.alerts := rfl

@[simp] theorem State.raiseMarkerMismatch_displaced (s : State) (a : BitVec 24) (p : Word) :
    (s.raiseMarkerMismatch a p).notices.displaced = s.notices.displaced := rfl

@[simp] theorem State.raiseMarkerMismatch_starved (s : State) (a : BitVec 24) (p : Word) :
    (s.raiseMarkerMismatch a p).notices.starved = s.notices.starved := rfl

@[simp] theorem State.raiseMarkerMismatch_markerMismatch (s : State) (a : BitVec 24) (p : Word) :
    (s.raiseMarkerMismatch a p).notices.markerMismatch = raiseLatch s.notices.markerMismatch a p := rfl

@[simp] theorem State.raiseMarkerMismatch_cantFault (s : State) (a : BitVec 24) (p : Word) :
    (s.raiseMarkerMismatch a p).notices.cantFault = s.notices.cantFault := rfl

@[simp] theorem State.raiseMarkerMismatch_setupFault (s : State) (a : BitVec 24) (p : Word) :
    (s.raiseMarkerMismatch a p).notices.setupFault = s.notices.setupFault := rfl

@[simp] theorem State.raiseMarkerMismatch_planTaken (s : State) (a : BitVec 24) (p : Word) :
    (s.raiseMarkerMismatch a p).notices.planTaken = s.notices.planTaken := rfl

@[simp] theorem State.raiseMarkerMismatch_reversal (s : State) (a : BitVec 24) (p : Word) :
    (s.raiseMarkerMismatch a p).notices.reversal = s.notices.reversal := rfl

@[simp] theorem State.raiseMarkerMismatch_stopped (s : State) (a : BitVec 24) (p : Word) :
    (s.raiseMarkerMismatch a p).notices.stopped = s.notices.stopped := rfl

@[simp] theorem State.raiseMarkerMismatch_unannounced (s : State) (a : BitVec 24) (p : Word) :
    (s.raiseMarkerMismatch a p).notices.unannounced = s.notices.unannounced := rfl

@[simp] theorem State.raiseMarkerMismatch_detail (s : State) (a : BitVec 24) (p : Word) :
    (s.raiseMarkerMismatch a p).notices.detail = s.notices.detail := rfl

@[simp] theorem State.raiseCantFault_fault (s : State) (a : BitVec 24) (p : Word) :
    (s.raiseCantFault a p).notices.fault = s.notices.fault := rfl

@[simp] theorem State.raiseCantFault_linkFault (s : State) (a : BitVec 24) (p : Word) :
    (s.raiseCantFault a p).notices.linkFault = s.notices.linkFault := rfl

@[simp] theorem State.raiseCantFault_alerts (s : State) (a : BitVec 24) (p : Word) :
    (s.raiseCantFault a p).notices.alerts = s.notices.alerts := rfl

@[simp] theorem State.raiseCantFault_displaced (s : State) (a : BitVec 24) (p : Word) :
    (s.raiseCantFault a p).notices.displaced = s.notices.displaced := rfl

@[simp] theorem State.raiseCantFault_starved (s : State) (a : BitVec 24) (p : Word) :
    (s.raiseCantFault a p).notices.starved = s.notices.starved := rfl

@[simp] theorem State.raiseCantFault_markerMismatch (s : State) (a : BitVec 24) (p : Word) :
    (s.raiseCantFault a p).notices.markerMismatch = s.notices.markerMismatch := rfl

@[simp] theorem State.raiseCantFault_cantFault (s : State) (a : BitVec 24) (p : Word) :
    (s.raiseCantFault a p).notices.cantFault = raiseLatch s.notices.cantFault a p := rfl

@[simp] theorem State.raiseCantFault_setupFault (s : State) (a : BitVec 24) (p : Word) :
    (s.raiseCantFault a p).notices.setupFault = s.notices.setupFault := rfl

@[simp] theorem State.raiseCantFault_planTaken (s : State) (a : BitVec 24) (p : Word) :
    (s.raiseCantFault a p).notices.planTaken = s.notices.planTaken := rfl

@[simp] theorem State.raiseCantFault_reversal (s : State) (a : BitVec 24) (p : Word) :
    (s.raiseCantFault a p).notices.reversal = s.notices.reversal := rfl

@[simp] theorem State.raiseCantFault_stopped (s : State) (a : BitVec 24) (p : Word) :
    (s.raiseCantFault a p).notices.stopped = s.notices.stopped := rfl

@[simp] theorem State.raiseCantFault_unannounced (s : State) (a : BitVec 24) (p : Word) :
    (s.raiseCantFault a p).notices.unannounced = s.notices.unannounced := rfl

@[simp] theorem State.raiseCantFault_detail (s : State) (a : BitVec 24) (p : Word) :
    (s.raiseCantFault a p).notices.detail = s.notices.detail := rfl

@[simp] theorem State.raisePlanTaken_fault (s : State) (a : BitVec 24) (p : Word) :
    (s.raisePlanTaken a p).notices.fault = s.notices.fault := rfl

@[simp] theorem State.raisePlanTaken_linkFault (s : State) (a : BitVec 24) (p : Word) :
    (s.raisePlanTaken a p).notices.linkFault = s.notices.linkFault := rfl

@[simp] theorem State.raisePlanTaken_alerts (s : State) (a : BitVec 24) (p : Word) :
    (s.raisePlanTaken a p).notices.alerts = s.notices.alerts := rfl

@[simp] theorem State.raisePlanTaken_displaced (s : State) (a : BitVec 24) (p : Word) :
    (s.raisePlanTaken a p).notices.displaced = s.notices.displaced := rfl

@[simp] theorem State.raisePlanTaken_starved (s : State) (a : BitVec 24) (p : Word) :
    (s.raisePlanTaken a p).notices.starved = s.notices.starved := rfl

@[simp] theorem State.raisePlanTaken_markerMismatch (s : State) (a : BitVec 24) (p : Word) :
    (s.raisePlanTaken a p).notices.markerMismatch = s.notices.markerMismatch := rfl

@[simp] theorem State.raisePlanTaken_cantFault (s : State) (a : BitVec 24) (p : Word) :
    (s.raisePlanTaken a p).notices.cantFault = s.notices.cantFault := rfl

@[simp] theorem State.raisePlanTaken_setupFault (s : State) (a : BitVec 24) (p : Word) :
    (s.raisePlanTaken a p).notices.setupFault = s.notices.setupFault := rfl

@[simp] theorem State.raisePlanTaken_planTaken (s : State) (a : BitVec 24) (p : Word) :
    (s.raisePlanTaken a p).notices.planTaken = raiseLatch s.notices.planTaken a p := rfl

@[simp] theorem State.raisePlanTaken_reversal (s : State) (a : BitVec 24) (p : Word) :
    (s.raisePlanTaken a p).notices.reversal = s.notices.reversal := rfl

@[simp] theorem State.raisePlanTaken_stopped (s : State) (a : BitVec 24) (p : Word) :
    (s.raisePlanTaken a p).notices.stopped = s.notices.stopped := rfl

@[simp] theorem State.raisePlanTaken_unannounced (s : State) (a : BitVec 24) (p : Word) :
    (s.raisePlanTaken a p).notices.unannounced = s.notices.unannounced := rfl

@[simp] theorem State.raisePlanTaken_detail (s : State) (a : BitVec 24) (p : Word) :
    (s.raisePlanTaken a p).notices.detail = s.notices.detail := rfl

@[simp] theorem State.raiseReversal_fault (s : State) (a : BitVec 24) (p : Word) :
    (s.raiseReversal a p).notices.fault = s.notices.fault := rfl

@[simp] theorem State.raiseReversal_linkFault (s : State) (a : BitVec 24) (p : Word) :
    (s.raiseReversal a p).notices.linkFault = s.notices.linkFault := rfl

@[simp] theorem State.raiseReversal_alerts (s : State) (a : BitVec 24) (p : Word) :
    (s.raiseReversal a p).notices.alerts = s.notices.alerts := rfl

@[simp] theorem State.raiseReversal_displaced (s : State) (a : BitVec 24) (p : Word) :
    (s.raiseReversal a p).notices.displaced = s.notices.displaced := rfl

@[simp] theorem State.raiseReversal_starved (s : State) (a : BitVec 24) (p : Word) :
    (s.raiseReversal a p).notices.starved = s.notices.starved := rfl

@[simp] theorem State.raiseReversal_markerMismatch (s : State) (a : BitVec 24) (p : Word) :
    (s.raiseReversal a p).notices.markerMismatch = s.notices.markerMismatch := rfl

@[simp] theorem State.raiseReversal_cantFault (s : State) (a : BitVec 24) (p : Word) :
    (s.raiseReversal a p).notices.cantFault = s.notices.cantFault := rfl

@[simp] theorem State.raiseReversal_setupFault (s : State) (a : BitVec 24) (p : Word) :
    (s.raiseReversal a p).notices.setupFault = s.notices.setupFault := rfl

@[simp] theorem State.raiseReversal_planTaken (s : State) (a : BitVec 24) (p : Word) :
    (s.raiseReversal a p).notices.planTaken = s.notices.planTaken := rfl

@[simp] theorem State.raiseReversal_reversal (s : State) (a : BitVec 24) (p : Word) :
    (s.raiseReversal a p).notices.reversal = raiseLatch s.notices.reversal a p := rfl

@[simp] theorem State.raiseReversal_stopped (s : State) (a : BitVec 24) (p : Word) :
    (s.raiseReversal a p).notices.stopped = s.notices.stopped := rfl

@[simp] theorem State.raiseReversal_unannounced (s : State) (a : BitVec 24) (p : Word) :
    (s.raiseReversal a p).notices.unannounced = s.notices.unannounced := rfl

@[simp] theorem State.raiseReversal_detail (s : State) (a : BitVec 24) (p : Word) :
    (s.raiseReversal a p).notices.detail = s.notices.detail := rfl

@[simp] theorem State.raiseStopped_fault (s : State) (a : BitVec 24) (p : Word) :
    (s.raiseStopped a p).notices.fault = s.notices.fault := rfl

@[simp] theorem State.raiseStopped_linkFault (s : State) (a : BitVec 24) (p : Word) :
    (s.raiseStopped a p).notices.linkFault = s.notices.linkFault := rfl

@[simp] theorem State.raiseStopped_alerts (s : State) (a : BitVec 24) (p : Word) :
    (s.raiseStopped a p).notices.alerts = s.notices.alerts := rfl

@[simp] theorem State.raiseStopped_displaced (s : State) (a : BitVec 24) (p : Word) :
    (s.raiseStopped a p).notices.displaced = s.notices.displaced := rfl

@[simp] theorem State.raiseStopped_starved (s : State) (a : BitVec 24) (p : Word) :
    (s.raiseStopped a p).notices.starved = s.notices.starved := rfl

@[simp] theorem State.raiseStopped_markerMismatch (s : State) (a : BitVec 24) (p : Word) :
    (s.raiseStopped a p).notices.markerMismatch = s.notices.markerMismatch := rfl

@[simp] theorem State.raiseStopped_cantFault (s : State) (a : BitVec 24) (p : Word) :
    (s.raiseStopped a p).notices.cantFault = s.notices.cantFault := rfl

@[simp] theorem State.raiseStopped_setupFault (s : State) (a : BitVec 24) (p : Word) :
    (s.raiseStopped a p).notices.setupFault = s.notices.setupFault := rfl

@[simp] theorem State.raiseStopped_planTaken (s : State) (a : BitVec 24) (p : Word) :
    (s.raiseStopped a p).notices.planTaken = s.notices.planTaken := rfl

@[simp] theorem State.raiseStopped_reversal (s : State) (a : BitVec 24) (p : Word) :
    (s.raiseStopped a p).notices.reversal = s.notices.reversal := rfl

@[simp] theorem State.raiseStopped_stopped (s : State) (a : BitVec 24) (p : Word) :
    (s.raiseStopped a p).notices.stopped = raiseLatch s.notices.stopped a p := rfl

@[simp] theorem State.raiseStopped_unannounced (s : State) (a : BitVec 24) (p : Word) :
    (s.raiseStopped a p).notices.unannounced = s.notices.unannounced := rfl

@[simp] theorem State.raiseStopped_detail (s : State) (a : BitVec 24) (p : Word) :
    (s.raiseStopped a p).notices.detail = s.notices.detail := rfl

@[simp] theorem State.raiseSetupFault_fault (s : State) (r : SetupRefusal) :
    (s.raiseSetupFault r).notices.fault = s.notices.fault := rfl

@[simp] theorem State.raiseSetupFault_linkFault (s : State) (r : SetupRefusal) :
    (s.raiseSetupFault r).notices.linkFault = s.notices.linkFault := rfl

@[simp] theorem State.raiseSetupFault_alerts (s : State) (r : SetupRefusal) :
    (s.raiseSetupFault r).notices.alerts = s.notices.alerts := rfl

@[simp] theorem State.raiseSetupFault_displaced (s : State) (r : SetupRefusal) :
    (s.raiseSetupFault r).notices.displaced = s.notices.displaced := rfl

@[simp] theorem State.raiseSetupFault_starved (s : State) (r : SetupRefusal) :
    (s.raiseSetupFault r).notices.starved = s.notices.starved := rfl

@[simp] theorem State.raiseSetupFault_markerMismatch (s : State) (r : SetupRefusal) :
    (s.raiseSetupFault r).notices.markerMismatch = s.notices.markerMismatch := rfl

@[simp] theorem State.raiseSetupFault_cantFault (s : State) (r : SetupRefusal) :
    (s.raiseSetupFault r).notices.cantFault = s.notices.cantFault := rfl

@[simp] theorem State.raiseSetupFault_setupFault (s : State) (r : SetupRefusal) :
    (s.raiseSetupFault r).notices.setupFault = raiseLatch s.notices.setupFault (BitVec.ofNat 24 r.1.number) (natWord r.2) := rfl

@[simp] theorem State.raiseSetupFault_planTaken (s : State) (r : SetupRefusal) :
    (s.raiseSetupFault r).notices.planTaken = s.notices.planTaken := rfl

@[simp] theorem State.raiseSetupFault_reversal (s : State) (r : SetupRefusal) :
    (s.raiseSetupFault r).notices.reversal = s.notices.reversal := rfl

@[simp] theorem State.raiseSetupFault_stopped (s : State) (r : SetupRefusal) :
    (s.raiseSetupFault r).notices.stopped = s.notices.stopped := rfl

@[simp] theorem State.raiseSetupFault_unannounced (s : State) (r : SetupRefusal) :
    (s.raiseSetupFault r).notices.unannounced = s.notices.unannounced := rfl

@[simp] theorem State.raiseSetupFault_detail (s : State) (r : SetupRefusal) :
    (s.raiseSetupFault r).notices.detail = s.notices.detail := rfl

@[simp] theorem State.raiseLinkFault_fault (s : State) (a : BitVec 24) (p : Word) :
    (s.raiseLinkFault a p).notices.fault = s.notices.fault := rfl

@[simp] theorem State.raiseLinkFault_linkFault (s : State) (a : BitVec 24) (p : Word) :
    (s.raiseLinkFault a p).notices.linkFault = some { argument := a, particulars := p, more := false } := rfl

@[simp] theorem State.raiseLinkFault_alerts (s : State) (a : BitVec 24) (p : Word) :
    (s.raiseLinkFault a p).notices.alerts = s.notices.alerts := rfl

@[simp] theorem State.raiseLinkFault_displaced (s : State) (a : BitVec 24) (p : Word) :
    (s.raiseLinkFault a p).notices.displaced = s.notices.displaced := rfl

@[simp] theorem State.raiseLinkFault_starved (s : State) (a : BitVec 24) (p : Word) :
    (s.raiseLinkFault a p).notices.starved = s.notices.starved := rfl

@[simp] theorem State.raiseLinkFault_markerMismatch (s : State) (a : BitVec 24) (p : Word) :
    (s.raiseLinkFault a p).notices.markerMismatch = s.notices.markerMismatch := rfl

@[simp] theorem State.raiseLinkFault_cantFault (s : State) (a : BitVec 24) (p : Word) :
    (s.raiseLinkFault a p).notices.cantFault = s.notices.cantFault := rfl

@[simp] theorem State.raiseLinkFault_setupFault (s : State) (a : BitVec 24) (p : Word) :
    (s.raiseLinkFault a p).notices.setupFault = s.notices.setupFault := rfl

@[simp] theorem State.raiseLinkFault_planTaken (s : State) (a : BitVec 24) (p : Word) :
    (s.raiseLinkFault a p).notices.planTaken = s.notices.planTaken := rfl

@[simp] theorem State.raiseLinkFault_reversal (s : State) (a : BitVec 24) (p : Word) :
    (s.raiseLinkFault a p).notices.reversal = s.notices.reversal := rfl

@[simp] theorem State.raiseLinkFault_stopped (s : State) (a : BitVec 24) (p : Word) :
    (s.raiseLinkFault a p).notices.stopped = s.notices.stopped := rfl

@[simp] theorem State.raiseLinkFault_unannounced (s : State) (a : BitVec 24) (p : Word) :
    (s.raiseLinkFault a p).notices.unannounced = s.notices.unannounced := rfl

@[simp] theorem State.raiseLinkFault_detail (s : State) (a : BitVec 24) (p : Word) :
    (s.raiseLinkFault a p).notices.detail = s.notices.detail := rfl

@[simp] theorem State.raiseStarved_fault (s : State) :
    s.raiseStarved.notices.fault = s.notices.fault := rfl

@[simp] theorem State.raiseStarved_linkFault (s : State) :
    s.raiseStarved.notices.linkFault = s.notices.linkFault := rfl

@[simp] theorem State.raiseStarved_alerts (s : State) :
    s.raiseStarved.notices.alerts = s.notices.alerts := rfl

@[simp] theorem State.raiseStarved_displaced (s : State) :
    s.raiseStarved.notices.displaced = s.notices.displaced := rfl

@[simp] theorem State.raiseStarved_starved (s : State) :
    s.raiseStarved.notices.starved = some (natWord s.sheets.queue.length) := rfl

@[simp] theorem State.raiseStarved_markerMismatch (s : State) :
    s.raiseStarved.notices.markerMismatch = s.notices.markerMismatch := rfl

@[simp] theorem State.raiseStarved_cantFault (s : State) :
    s.raiseStarved.notices.cantFault = s.notices.cantFault := rfl

@[simp] theorem State.raiseStarved_setupFault (s : State) :
    s.raiseStarved.notices.setupFault = s.notices.setupFault := rfl

@[simp] theorem State.raiseStarved_planTaken (s : State) :
    s.raiseStarved.notices.planTaken = s.notices.planTaken := rfl

@[simp] theorem State.raiseStarved_reversal (s : State) :
    s.raiseStarved.notices.reversal = s.notices.reversal := rfl

@[simp] theorem State.raiseStarved_stopped (s : State) :
    s.raiseStarved.notices.stopped = s.notices.stopped := rfl

@[simp] theorem State.raiseStarved_unannounced (s : State) :
    s.raiseStarved.notices.unannounced = s.notices.unannounced := rfl

@[simp] theorem State.raiseStarved_detail (s : State) :
    s.raiseStarved.notices.detail = s.notices.detail := rfl

@[simp] theorem State.enqueue_sheetCount (s : State) (r : Record) :
    (s.enqueue r).sheets.sheetCount = s.sheets.sheetCount := rfl

@[simp] theorem State.enqueue_sheetSize (s : State) (r : Record) :
    (s.enqueue r).sheets.sheetSize = s.sheets.sheetSize := rfl

@[simp] theorem State.enqueue_sheetBase (s : State) (r : Record) :
    (s.enqueue r).sheets.sheetBase = s.sheets.sheetBase := rfl

@[simp] theorem State.enqueue_queue (s : State) (r : Record) :
    (s.enqueue r).sheets.queue = s.sheets.queue ++ [{ record := r, lostBefore := s.sheets.lost }] := rfl

@[simp] theorem State.enqueue_lost (s : State) (r : Record) :
    (s.enqueue r).sheets.lost = 0 := rfl

@[simp] theorem State.enqueue_runLost (s : State) (r : Record) :
    (s.enqueue r).sheets.runLost = s.sheets.runLost := rfl

@[simp] theorem State.enqueue_freeSheets (s : State) (r : Record) :
    (s.enqueue r).sheets.freeSheets = s.sheets.freeSheets := rfl

@[simp] theorem State.enqueue_filling (s : State) (r : Record) :
    (s.enqueue r).sheets.filling = s.sheets.filling := rfl

@[simp] theorem State.enqueue_closedSheets (s : State) (r : Record) :
    (s.enqueue r).sheets.closedSheets = s.sheets.closedSheets := rfl

@[simp] theorem State.enqueue_sequence (s : State) (r : Record) :
    (s.enqueue r).sheets.sequence = s.sheets.sequence := rfl

@[simp] theorem State.enqueue_drain (s : State) (r : Record) :
    (s.enqueue r).sheets.drain = s.sheets.drain := rfl

@[simp] theorem State.enqueue_stopMode (s : State) (r : Record) :
    (s.enqueue r).sheets.stopMode = s.sheets.stopMode := rfl

@[simp] theorem State.enqueue_endWaiting (s : State) (r : Record) :
    (s.enqueue r).sheets.endWaiting = s.sheets.endWaiting := rfl

@[simp] theorem State.enqueue_endWritten (s : State) (r : Record) :
    (s.enqueue r).sheets.endWritten = s.sheets.endWritten := rfl

@[simp] theorem State.invalidateSets_calibration (s : State) :
    s.invalidateSets.loader.calibration = s.loader.calibration := rfl

@[simp] theorem State.invalidateSets_calibrationWords (s : State) :
    s.invalidateSets.loader.calibrationWords = s.loader.calibrationWords := rfl

@[simp] theorem State.invalidateSets_setX (s : State) :
    s.invalidateSets.loader.setX = s.loader.setX.invalidated := rfl

@[simp] theorem State.invalidateSets_setY (s : State) :
    s.invalidateSets.loader.setY = s.loader.setY.invalidated := rfl

@[simp] theorem State.invalidateSets_load (s : State) :
    s.invalidateSets.loader.load = .idle := rfl

@[simp] theorem State.startCommit_openingCounter (s : State) (h : Handed) :
    (s.startCommit h).accumulator.openingCounter = s.accumulator.openingCounter := rfl

@[simp] theorem State.startCommit_evaluationOrder (s : State) (h : Handed) :
    (s.startCommit h).accumulator.evaluationOrder = s.accumulator.evaluationOrder := rfl

@[simp] theorem State.startCommit_bank0 (s : State) (h : Handed) :
    (s.startCommit h).accumulator.bank0 = s.accumulator.bank0 := rfl

@[simp] theorem State.startCommit_bank1 (s : State) (h : Handed) :
    (s.startCommit h).accumulator.bank1 = s.accumulator.bank1 := rfl

end Sys2Proof.Machine
end

