-- ==== Sys2Proof/Laws/BlockFrames.lean ====
section
/-! SUPPORT. The frame of every shared operation within the blocks it writes: the fields of each such block that it leaves
as they were. -/
namespace Sys2Proof.Machine

@[simp] theorem State.setBank_accumulator_frame (s : State) (i : BankId) (b : Bank) :
    (s.setBank i b).accumulator.openingCounter = s.accumulator.openingCounter ∧
    (s.setBank i b).accumulator.commit = s.accumulator.commit ∧
    (s.setBank i b).accumulator.evaluationOrder = s.accumulator.evaluationOrder := by
  simp only [State.setBank] <;> (repeat' split) <;> simp

@[simp] theorem State.setBuffer_sweep_frame (s : State) (i : BufferId) (x : RevolutionBuffer) :
    (s.setBuffer i x).sweep.intake = s.sweep.intake ∧ (s.setBuffer i x).sweep.receiver = s.sweep.receiver ∧
    (s.setBuffer i x).sweep.current = s.sweep.current ∧ (s.setBuffer i x).sweep.handover = s.sweep.handover ∧
    (s.setBuffer i x).sweep.lastGood = s.sweep.lastGood ∧ (s.setBuffer i x).sweep.markTimer = s.sweep.markTimer ∧
    (s.setBuffer i x).sweep.latch = s.sweep.latch ∧ (s.setBuffer i x).sweep.runFaults = s.sweep.runFaults ∧
    (s.setBuffer i x).sweep.lastCommand = s.sweep.lastCommand := by
  simp only [State.setBuffer] <;> (repeat' split) <;> simp

@[simp] theorem State.freeBuffer_sweep_frame (s : State) (i : BufferId) :
    (s.freeBuffer i).sweep.intake = s.sweep.intake ∧ (s.freeBuffer i).sweep.receiver = s.sweep.receiver ∧
    (s.freeBuffer i).sweep.current = s.sweep.current ∧ (s.freeBuffer i).sweep.handover = s.sweep.handover ∧
    (s.freeBuffer i).sweep.lastGood = s.sweep.lastGood ∧ (s.freeBuffer i).sweep.markTimer = s.sweep.markTimer ∧
    (s.freeBuffer i).sweep.latch = s.sweep.latch ∧ (s.freeBuffer i).sweep.runFaults = s.sweep.runFaults ∧
    (s.freeBuffer i).sweep.lastCommand = s.sweep.lastCommand := by
  simp only [State.freeBuffer] <;> (repeat' split) <;> simp

@[simp] theorem State.setPlanSet_loader_frame (s : State) (i : SetId) (p : PlanSet) :
    (s.setPlanSet i p).loader.calibration = s.loader.calibration ∧
    (s.setPlanSet i p).loader.calibrationWords = s.loader.calibrationWords ∧
    (s.setPlanSet i p).loader.load = s.loader.load := by
  simp only [State.setPlanSet] <;> (repeat' split) <;> simp

@[simp] theorem State.raiseFault_notices_frame (s : State) (c : FaultCause) (p : Word) :
    (s.raiseFault c p).notices.linkFault = s.notices.linkFault ∧
    (s.raiseFault c p).notices.alerts = s.notices.alerts ∧
    (s.raiseFault c p).notices.displaced = s.notices.displaced ∧
    (s.raiseFault c p).notices.starved = s.notices.starved ∧
    (s.raiseFault c p).notices.markerMismatch = s.notices.markerMismatch ∧
    (s.raiseFault c p).notices.cantFault = s.notices.cantFault ∧
    (s.raiseFault c p).notices.setupFault = s.notices.setupFault ∧
    (s.raiseFault c p).notices.planTaken = s.notices.planTaken ∧
    (s.raiseFault c p).notices.reversal = s.notices.reversal ∧
    (s.raiseFault c p).notices.stopped = s.notices.stopped ∧
    (s.raiseFault c p).notices.unannounced = s.notices.unannounced ∧
    (s.raiseFault c p).notices.detail = s.notices.detail := by
  simp only [State.raiseFault] <;> (repeat' split) <;> simp

@[simp] theorem State.offerAlert_notices_frame (s : State) (a : Alert) :
    (s.offerAlert a).notices.fault = s.notices.fault ∧ (s.offerAlert a).notices.linkFault = s.notices.linkFault ∧
    (s.offerAlert a).notices.starved = s.notices.starved ∧
    (s.offerAlert a).notices.markerMismatch = s.notices.markerMismatch ∧
    (s.offerAlert a).notices.cantFault = s.notices.cantFault ∧
    (s.offerAlert a).notices.setupFault = s.notices.setupFault ∧
    (s.offerAlert a).notices.planTaken = s.notices.planTaken ∧
    (s.offerAlert a).notices.reversal = s.notices.reversal ∧ (s.offerAlert a).notices.stopped = s.notices.stopped ∧
    (s.offerAlert a).notices.unannounced = s.notices.unannounced ∧
    (s.offerAlert a).notices.detail = s.notices.detail := by
  simp only [State.offerAlert] <;> (repeat' split) <;> simp

@[simp] theorem State.place_port_frame (s : State) (r : Requester) (bs : List Burst) :
    (s.place r bs).port.grant = s.port.grant ∧ (s.place r bs).port.access = s.port.access := by
  simp only [State.place] <;> (repeat' split) <;> simp

@[simp] theorem State.placeAtWriterHead_port_frame (s : State) (b : Burst) :
    (s.placeAtWriterHead b).port.comparatorQueue = s.port.comparatorQueue ∧
    (s.placeAtWriterHead b).port.controlQueue = s.port.controlQueue ∧
    (s.placeAtWriterHead b).port.loaderQueue = s.port.loaderQueue ∧
    (s.placeAtWriterHead b).port.grant = s.port.grant ∧ (s.placeAtWriterHead b).port.access = s.port.access := by
  simp only [State.placeAtWriterHead] <;> (repeat' split) <;> simp

@[simp] theorem State.abandonGrant_port_frame (s : State) (r : Requester) :
    (s.abandonGrant r).port.comparatorQueue = s.port.comparatorQueue ∧
    (s.abandonGrant r).port.writerQueue = s.port.writerQueue ∧
    (s.abandonGrant r).port.controlQueue = s.port.controlQueue ∧
    (s.abandonGrant r).port.loaderQueue = s.port.loaderQueue ∧ (s.abandonGrant r).port.access = s.port.access := by
  simp only [State.abandonGrant] <;> (repeat' split) <;> simp

@[simp] theorem State.arbitrate_port_frame (s : State) :
    s.arbitrate.port.access = s.port.access := by
  simp only [State.arbitrate] <;> (repeat' split) <;> simp

@[simp] theorem State.cutGrant_port_frame (s : State) :
    s.cutGrant.port.comparatorQueue = s.port.comparatorQueue ∧ s.cutGrant.port.writerQueue = s.port.writerQueue ∧
    s.cutGrant.port.controlQueue = s.port.controlQueue ∧ s.cutGrant.port.loaderQueue = s.port.loaderQueue ∧
    s.cutGrant.port.access = s.port.access := by
  simp only [State.cutGrant] <;> (repeat' split) <;> simp

@[simp] theorem State.failGrant_port_frame (s : State) :
    s.failGrant.port.comparatorQueue = s.port.comparatorQueue ∧ s.failGrant.port.writerQueue = s.port.writerQueue ∧
    s.failGrant.port.controlQueue = s.port.controlQueue ∧ s.failGrant.port.loaderQueue = s.port.loaderQueue ∧
    s.failGrant.port.access = s.port.access := by
  simp only [State.failGrant] <;> (repeat' split) <;> simp

@[simp] theorem State.flushPosition_port_frame (s : State) :
    s.flushPosition.port.comparatorQueue = s.port.comparatorQueue ∧
    s.flushPosition.port.writerQueue = s.port.writerQueue ∧ s.flushPosition.port.loaderQueue = s.port.loaderQueue ∧
    s.flushPosition.port.grant = s.port.grant ∧ s.flushPosition.port.access = s.port.access := by
  simp only [State.flushPosition] <;> (repeat' split) <;> simp

@[simp] theorem State.takeSheet_sheets_frame (s : State) :
    s.takeSheet.sheets.sheetCount = s.sheets.sheetCount ∧ s.takeSheet.sheets.sheetSize = s.sheets.sheetSize ∧
    s.takeSheet.sheets.sheetBase = s.sheets.sheetBase ∧ s.takeSheet.sheets.queue = s.sheets.queue ∧
    s.takeSheet.sheets.lost = s.sheets.lost ∧ s.takeSheet.sheets.runLost = s.sheets.runLost ∧
    s.takeSheet.sheets.closedSheets = s.sheets.closedSheets ∧ s.takeSheet.sheets.stopMode = s.sheets.stopMode ∧
    s.takeSheet.sheets.endWaiting = s.sheets.endWaiting ∧ s.takeSheet.sheets.endWritten = s.sheets.endWritten := by
  simp only [State.takeSheet] <;> (repeat' split) <;> simp

@[simp] theorem State.takeSheet_notices_frame (s : State) :
    s.takeSheet.notices.fault = s.notices.fault ∧ s.takeSheet.notices.linkFault = s.notices.linkFault ∧
    s.takeSheet.notices.alerts = s.notices.alerts ∧ s.takeSheet.notices.displaced = s.notices.displaced ∧
    s.takeSheet.notices.markerMismatch = s.notices.markerMismatch ∧
    s.takeSheet.notices.cantFault = s.notices.cantFault ∧ s.takeSheet.notices.setupFault = s.notices.setupFault ∧
    s.takeSheet.notices.planTaken = s.notices.planTaken ∧ s.takeSheet.notices.reversal = s.notices.reversal ∧
    s.takeSheet.notices.stopped = s.notices.stopped ∧ s.takeSheet.notices.unannounced = s.notices.unannounced ∧
    s.takeSheet.notices.detail = s.notices.detail := by
  simp only [State.takeSheet] <;> (repeat' split) <;> simp

@[simp] theorem State.takeSheet_port_frame (s : State) :
    s.takeSheet.port.grant = s.port.grant ∧ s.takeSheet.port.access = s.port.access := by
  simp only [State.takeSheet] <;> (repeat' split) <;> simp

@[simp] theorem State.beginRecord_sheets_frame (s : State) :
    s.beginRecord.sheets.sheetCount = s.sheets.sheetCount ∧ s.beginRecord.sheets.sheetSize = s.sheets.sheetSize ∧
    s.beginRecord.sheets.sheetBase = s.sheets.sheetBase ∧ s.beginRecord.sheets.queue = s.sheets.queue ∧
    s.beginRecord.sheets.lost = s.sheets.lost ∧ s.beginRecord.sheets.runLost = s.sheets.runLost ∧
    s.beginRecord.sheets.freeSheets = s.sheets.freeSheets ∧ s.beginRecord.sheets.filling = s.sheets.filling ∧
    s.beginRecord.sheets.closedSheets = s.sheets.closedSheets ∧ s.beginRecord.sheets.sequence = s.sheets.sequence ∧
    s.beginRecord.sheets.stopMode = s.sheets.stopMode ∧ s.beginRecord.sheets.endWaiting = s.sheets.endWaiting ∧
    s.beginRecord.sheets.endWritten = s.sheets.endWritten := by
  simp only [State.beginRecord] <;> (repeat' split) <;> simp

@[simp] theorem State.beginRecord_port_frame (s : State) :
    s.beginRecord.port.grant = s.port.grant ∧ s.beginRecord.port.access = s.port.access := by
  simp only [State.beginRecord] <;> (repeat' split) <;> simp

@[simp] theorem State.beginClose_sheets_frame (s : State) :
    s.beginClose.sheets.sheetCount = s.sheets.sheetCount ∧ s.beginClose.sheets.sheetSize = s.sheets.sheetSize ∧
    s.beginClose.sheets.sheetBase = s.sheets.sheetBase ∧ s.beginClose.sheets.queue = s.sheets.queue ∧
    s.beginClose.sheets.lost = s.sheets.lost ∧ s.beginClose.sheets.runLost = s.sheets.runLost ∧
    s.beginClose.sheets.freeSheets = s.sheets.freeSheets ∧ s.beginClose.sheets.filling = s.sheets.filling ∧
    s.beginClose.sheets.closedSheets = s.sheets.closedSheets ∧ s.beginClose.sheets.sequence = s.sheets.sequence ∧
    s.beginClose.sheets.stopMode = s.sheets.stopMode ∧ s.beginClose.sheets.endWaiting = s.sheets.endWaiting ∧
    s.beginClose.sheets.endWritten = s.sheets.endWritten := by
  simp only [State.beginClose] <;> (repeat' split) <;> simp

@[simp] theorem State.beginClose_port_frame (s : State) :
    s.beginClose.port.grant = s.port.grant ∧ s.beginClose.port.access = s.port.access := by
  simp only [State.beginClose] <;> (repeat' split) <;> simp

@[simp] theorem State.lookAtHead_sheets_frame (s : State) :
    s.lookAtHead.sheets.sheetCount = s.sheets.sheetCount ∧ s.lookAtHead.sheets.sheetSize = s.sheets.sheetSize ∧
    s.lookAtHead.sheets.sheetBase = s.sheets.sheetBase ∧ s.lookAtHead.sheets.queue = s.sheets.queue ∧
    s.lookAtHead.sheets.lost = s.sheets.lost ∧ s.lookAtHead.sheets.runLost = s.sheets.runLost ∧
    s.lookAtHead.sheets.closedSheets = s.sheets.closedSheets ∧ s.lookAtHead.sheets.stopMode = s.sheets.stopMode ∧
    s.lookAtHead.sheets.endWaiting = s.sheets.endWaiting ∧
    s.lookAtHead.sheets.endWritten = s.sheets.endWritten := by
  simp only [State.lookAtHead] <;> (repeat' split) <;> simp

@[simp] theorem State.lookAtHead_notices_frame (s : State) :
    s.lookAtHead.notices.fault = s.notices.fault ∧ s.lookAtHead.notices.linkFault = s.notices.linkFault ∧
    s.lookAtHead.notices.alerts = s.notices.alerts ∧ s.lookAtHead.notices.displaced = s.notices.displaced ∧
    s.lookAtHead.notices.markerMismatch = s.notices.markerMismatch ∧
    s.lookAtHead.notices.cantFault = s.notices.cantFault ∧ s.lookAtHead.notices.setupFault = s.notices.setupFault ∧
    s.lookAtHead.notices.planTaken = s.notices.planTaken ∧ s.lookAtHead.notices.reversal = s.notices.reversal ∧
    s.lookAtHead.notices.stopped = s.notices.stopped ∧ s.lookAtHead.notices.unannounced = s.notices.unannounced ∧
    s.lookAtHead.notices.detail = s.notices.detail := by
  simp only [State.lookAtHead] <;> (repeat' split) <;> simp

@[simp] theorem State.lookAtHead_port_frame (s : State) :
    s.lookAtHead.port.grant = s.port.grant ∧ s.lookAtHead.port.access = s.port.access := by
  simp only [State.lookAtHead] <;> (repeat' split) <;> simp

@[simp] theorem State.admit_sheets_frame (s : State) (r : Record) :
    (s.admitRecord r).sheets.sheetCount = s.sheets.sheetCount ∧ (s.admitRecord r).sheets.sheetSize = s.sheets.sheetSize ∧
    (s.admitRecord r).sheets.sheetBase = s.sheets.sheetBase ∧ (s.admitRecord r).sheets.runLost = s.sheets.runLost ∧
    (s.admitRecord r).sheets.closedSheets = s.sheets.closedSheets ∧ (s.admitRecord r).sheets.stopMode = s.sheets.stopMode ∧
    (s.admitRecord r).sheets.endWaiting = s.sheets.endWaiting ∧ (s.admitRecord r).sheets.endWritten = s.sheets.endWritten := by
  simp only [State.admitRecord] <;> (repeat' split) <;> simp

@[simp] theorem State.admit_notices_frame (s : State) (r : Record) :
    (s.admitRecord r).notices.fault = s.notices.fault ∧ (s.admitRecord r).notices.linkFault = s.notices.linkFault ∧
    (s.admitRecord r).notices.alerts = s.notices.alerts ∧ (s.admitRecord r).notices.displaced = s.notices.displaced ∧
    (s.admitRecord r).notices.markerMismatch = s.notices.markerMismatch ∧
    (s.admitRecord r).notices.cantFault = s.notices.cantFault ∧ (s.admitRecord r).notices.setupFault = s.notices.setupFault ∧
    (s.admitRecord r).notices.planTaken = s.notices.planTaken ∧ (s.admitRecord r).notices.reversal = s.notices.reversal ∧
    (s.admitRecord r).notices.stopped = s.notices.stopped ∧ (s.admitRecord r).notices.unannounced = s.notices.unannounced ∧
    (s.admitRecord r).notices.detail = s.notices.detail := by
  simp only [State.admitRecord] <;> (repeat' split) <;> simp

@[simp] theorem State.admit_port_frame (s : State) (r : Record) :
    (s.admitRecord r).port.grant = s.port.grant ∧ (s.admitRecord r).port.access = s.port.access := by
  simp only [State.admitRecord] <;> (repeat' split) <;> simp

@[simp] theorem State.offer_sheets_frame (s : State) (r : Record) :
    (s.offer r).sheets.sheetCount = s.sheets.sheetCount ∧ (s.offer r).sheets.sheetSize = s.sheets.sheetSize ∧
    (s.offer r).sheets.sheetBase = s.sheets.sheetBase ∧ (s.offer r).sheets.closedSheets = s.sheets.closedSheets ∧
    (s.offer r).sheets.stopMode = s.sheets.stopMode ∧ (s.offer r).sheets.endWaiting = s.sheets.endWaiting ∧
    (s.offer r).sheets.endWritten = s.sheets.endWritten := by
  simp only [State.offer] <;> (repeat' split) <;> simp

@[simp] theorem State.offer_notices_frame (s : State) (r : Record) :
    (s.offer r).notices.fault = s.notices.fault ∧ (s.offer r).notices.linkFault = s.notices.linkFault ∧
    (s.offer r).notices.alerts = s.notices.alerts ∧ (s.offer r).notices.displaced = s.notices.displaced ∧
    (s.offer r).notices.markerMismatch = s.notices.markerMismatch ∧
    (s.offer r).notices.cantFault = s.notices.cantFault ∧ (s.offer r).notices.setupFault = s.notices.setupFault ∧
    (s.offer r).notices.planTaken = s.notices.planTaken ∧ (s.offer r).notices.reversal = s.notices.reversal ∧
    (s.offer r).notices.stopped = s.notices.stopped ∧ (s.offer r).notices.unannounced = s.notices.unannounced ∧
    (s.offer r).notices.detail = s.notices.detail := by
  simp only [State.offer] <;> (repeat' split) <;> simp

@[simp] theorem State.offer_port_frame (s : State) (r : Record) :
    (s.offer r).port.grant = s.port.grant ∧ (s.offer r).port.access = s.port.access := by
  simp only [State.offer] <;> (repeat' split) <;> simp

@[simp] theorem State.offerEnd_sheets_frame (s : State) (m : StopMode) (n : Nat) :
    (s.offerEnd m n).sheets.sheetCount = s.sheets.sheetCount ∧
    (s.offerEnd m n).sheets.sheetSize = s.sheets.sheetSize ∧
    (s.offerEnd m n).sheets.sheetBase = s.sheets.sheetBase ∧ (s.offerEnd m n).sheets.runLost = s.sheets.runLost ∧
    (s.offerEnd m n).sheets.closedSheets = s.sheets.closedSheets ∧
    (s.offerEnd m n).sheets.stopMode = s.sheets.stopMode ∧
    (s.offerEnd m n).sheets.endWritten = s.sheets.endWritten := by
  simp only [State.offerEnd] <;> (repeat' split) <;> simp

@[simp] theorem State.offerEnd_notices_frame (s : State) (m : StopMode) (n : Nat) :
    (s.offerEnd m n).notices.fault = s.notices.fault ∧ (s.offerEnd m n).notices.linkFault = s.notices.linkFault ∧
    (s.offerEnd m n).notices.alerts = s.notices.alerts ∧ (s.offerEnd m n).notices.displaced = s.notices.displaced ∧
    (s.offerEnd m n).notices.markerMismatch = s.notices.markerMismatch ∧
    (s.offerEnd m n).notices.cantFault = s.notices.cantFault ∧
    (s.offerEnd m n).notices.setupFault = s.notices.setupFault ∧
    (s.offerEnd m n).notices.planTaken = s.notices.planTaken ∧
    (s.offerEnd m n).notices.reversal = s.notices.reversal ∧ (s.offerEnd m n).notices.stopped = s.notices.stopped ∧
    (s.offerEnd m n).notices.unannounced = s.notices.unannounced ∧
    (s.offerEnd m n).notices.detail = s.notices.detail := by
  simp only [State.offerEnd] <;> (repeat' split) <;> simp

@[simp] theorem State.offerEnd_port_frame (s : State) (m : StopMode) (n : Nat) :
    (s.offerEnd m n).port.grant = s.port.grant ∧ (s.offerEnd m n).port.access = s.port.access := by
  simp only [State.offerEnd] <;> (repeat' split) <;> simp

@[simp] theorem State.refuseLoad_loader_frame (s : State) (r : SetupRefusal) :
    (s.refuseLoad r).loader.calibration = s.loader.calibration ∧ (s.refuseLoad r).loader.setX = s.loader.setX ∧
    (s.refuseLoad r).loader.setY = s.loader.setY := by
  simp only [State.refuseLoad] <;> (repeat' split) <;> simp

@[simp] theorem State.refuseLoad_notices_frame (s : State) (r : SetupRefusal) :
    (s.refuseLoad r).notices.fault = s.notices.fault ∧ (s.refuseLoad r).notices.linkFault = s.notices.linkFault ∧
    (s.refuseLoad r).notices.alerts = s.notices.alerts ∧ (s.refuseLoad r).notices.displaced = s.notices.displaced ∧
    (s.refuseLoad r).notices.starved = s.notices.starved ∧
    (s.refuseLoad r).notices.markerMismatch = s.notices.markerMismatch ∧
    (s.refuseLoad r).notices.cantFault = s.notices.cantFault ∧
    (s.refuseLoad r).notices.planTaken = s.notices.planTaken ∧
    (s.refuseLoad r).notices.reversal = s.notices.reversal ∧ (s.refuseLoad r).notices.stopped = s.notices.stopped ∧
    (s.refuseLoad r).notices.unannounced = s.notices.unannounced ∧
    (s.refuseLoad r).notices.detail = s.notices.detail := by
  simp only [State.refuseLoad] <;> (repeat' split) <;> simp

@[simp] theorem State.beginLoad_loader_frame (s : State) (t : SetId) (o : Nat) :
    (s.beginLoad t o).loader.calibration = s.loader.calibration := by
  simp only [State.beginLoad] <;> (repeat' split) <;> simp

@[simp] theorem State.beginLoad_notices_frame (s : State) (t : SetId) (o : Nat) :
    (s.beginLoad t o).notices.fault = s.notices.fault ∧ (s.beginLoad t o).notices.linkFault = s.notices.linkFault ∧
    (s.beginLoad t o).notices.alerts = s.notices.alerts ∧
    (s.beginLoad t o).notices.displaced = s.notices.displaced ∧
    (s.beginLoad t o).notices.starved = s.notices.starved ∧
    (s.beginLoad t o).notices.markerMismatch = s.notices.markerMismatch ∧
    (s.beginLoad t o).notices.cantFault = s.notices.cantFault ∧
    (s.beginLoad t o).notices.planTaken = s.notices.planTaken ∧
    (s.beginLoad t o).notices.reversal = s.notices.reversal ∧
    (s.beginLoad t o).notices.stopped = s.notices.stopped ∧
    (s.beginLoad t o).notices.unannounced = s.notices.unannounced ∧
    (s.beginLoad t o).notices.detail = s.notices.detail := by
  simp only [State.beginLoad] <;> (repeat' split) <;> simp

@[simp] theorem State.beginLoad_port_frame (s : State) (t : SetId) (o : Nat) :
    (s.beginLoad t o).port.grant = s.port.grant ∧ (s.beginLoad t o).port.access = s.port.access := by
  simp only [State.beginLoad] <;> (repeat' split) <;> simp

@[simp] theorem State.cancelLoad_loader_frame (s : State) :
    s.cancelLoad.loader.calibration = s.loader.calibration ∧
    s.cancelLoad.loader.calibrationWords = s.loader.calibrationWords ∧ s.cancelLoad.loader.setX = s.loader.setX ∧
    s.cancelLoad.loader.setY = s.loader.setY := by
  simp only [State.cancelLoad] <;> (repeat' split) <;> simp

@[simp] theorem State.cancelLoad_port_frame (s : State) :
    s.cancelLoad.port.comparatorQueue = s.port.comparatorQueue ∧
    s.cancelLoad.port.writerQueue = s.port.writerQueue ∧ s.cancelLoad.port.controlQueue = s.port.controlQueue ∧
    s.cancelLoad.port.access = s.port.access := by
  simp only [State.cancelLoad] <;> (repeat' split) <;> simp

@[simp] theorem State.releaseSet_loader_frame (s : State) (i : SetId) :
    (s.releaseSet i).loader.calibration = s.loader.calibration := by
  simp only [State.releaseSet] <;> (repeat' split) <;> simp

@[simp] theorem State.releaseSet_notices_frame (s : State) (i : SetId) :
    (s.releaseSet i).notices.fault = s.notices.fault ∧ (s.releaseSet i).notices.linkFault = s.notices.linkFault ∧
    (s.releaseSet i).notices.alerts = s.notices.alerts ∧ (s.releaseSet i).notices.displaced = s.notices.displaced ∧
    (s.releaseSet i).notices.starved = s.notices.starved ∧
    (s.releaseSet i).notices.markerMismatch = s.notices.markerMismatch ∧
    (s.releaseSet i).notices.cantFault = s.notices.cantFault ∧
    (s.releaseSet i).notices.planTaken = s.notices.planTaken ∧
    (s.releaseSet i).notices.reversal = s.notices.reversal ∧ (s.releaseSet i).notices.stopped = s.notices.stopped ∧
    (s.releaseSet i).notices.unannounced = s.notices.unannounced ∧
    (s.releaseSet i).notices.detail = s.notices.detail := by
  simp only [State.releaseSet] <;> (repeat' split) <;> simp

@[simp] theorem State.releaseSet_port_frame (s : State) (i : SetId) :
    (s.releaseSet i).port.grant = s.port.grant ∧ (s.releaseSet i).port.access = s.port.access := by
  simp only [State.releaseSet] <;> (repeat' split) <;> simp

@[simp] theorem State.switchPlan_loader_frame (s : State) (n : Int) :
    (s.switchPlan n).loader.calibration = s.loader.calibration ∧
    (s.switchPlan n).loader.calibrationWords = s.loader.calibrationWords ∧
    (s.switchPlan n).loader.load = s.loader.load := by
  simp only [State.switchPlan] <;> (repeat' split) <;> simp

@[simp] theorem State.switchPlan_notices_frame (s : State) (n : Int) :
    (s.switchPlan n).notices.fault = s.notices.fault ∧ (s.switchPlan n).notices.linkFault = s.notices.linkFault ∧
    (s.switchPlan n).notices.alerts = s.notices.alerts ∧ (s.switchPlan n).notices.displaced = s.notices.displaced ∧
    (s.switchPlan n).notices.markerMismatch = s.notices.markerMismatch ∧
    (s.switchPlan n).notices.cantFault = s.notices.cantFault ∧
    (s.switchPlan n).notices.setupFault = s.notices.setupFault ∧
    (s.switchPlan n).notices.reversal = s.notices.reversal ∧ (s.switchPlan n).notices.stopped = s.notices.stopped ∧
    (s.switchPlan n).notices.unannounced = s.notices.unannounced ∧
    (s.switchPlan n).notices.detail = s.notices.detail := by
  simp only [State.switchPlan] <;> (repeat' split) <;> simp

@[simp] theorem State.switchPlan_sheets_frame (s : State) (n : Int) :
    (s.switchPlan n).sheets.sheetCount = s.sheets.sheetCount ∧
    (s.switchPlan n).sheets.sheetSize = s.sheets.sheetSize ∧
    (s.switchPlan n).sheets.sheetBase = s.sheets.sheetBase ∧
    (s.switchPlan n).sheets.closedSheets = s.sheets.closedSheets ∧
    (s.switchPlan n).sheets.stopMode = s.sheets.stopMode ∧
    (s.switchPlan n).sheets.endWaiting = s.sheets.endWaiting ∧
    (s.switchPlan n).sheets.endWritten = s.sheets.endWritten := by
  simp only [State.switchPlan] <;> (repeat' split) <;> simp

@[simp] theorem State.switchPlan_port_frame (s : State) (n : Int) :
    (s.switchPlan n).port.grant = s.port.grant ∧ (s.switchPlan n).port.access = s.port.access := by
  simp only [State.switchPlan] <;> (repeat' split) <;> simp

@[simp] theorem State.announcePlan_notices_frame (s : State) (n : Int) :
    (s.announcePlan n).notices.fault = s.notices.fault ∧
    (s.announcePlan n).notices.linkFault = s.notices.linkFault ∧
    (s.announcePlan n).notices.alerts = s.notices.alerts ∧
    (s.announcePlan n).notices.displaced = s.notices.displaced ∧
    (s.announcePlan n).notices.markerMismatch = s.notices.markerMismatch ∧
    (s.announcePlan n).notices.cantFault = s.notices.cantFault ∧
    (s.announcePlan n).notices.setupFault = s.notices.setupFault ∧
    (s.announcePlan n).notices.reversal = s.notices.reversal ∧
    (s.announcePlan n).notices.stopped = s.notices.stopped ∧
    (s.announcePlan n).notices.unannounced = s.notices.unannounced ∧
    (s.announcePlan n).notices.detail = s.notices.detail := by
  simp only [State.announcePlan] <;> (repeat' split) <;> simp

@[simp] theorem State.announcePlan_sheets_frame (s : State) (n : Int) :
    (s.announcePlan n).sheets.sheetCount = s.sheets.sheetCount ∧
    (s.announcePlan n).sheets.sheetSize = s.sheets.sheetSize ∧
    (s.announcePlan n).sheets.sheetBase = s.sheets.sheetBase ∧
    (s.announcePlan n).sheets.closedSheets = s.sheets.closedSheets ∧
    (s.announcePlan n).sheets.stopMode = s.sheets.stopMode ∧
    (s.announcePlan n).sheets.endWaiting = s.sheets.endWaiting ∧
    (s.announcePlan n).sheets.endWritten = s.sheets.endWritten := by
  simp only [State.announcePlan] <;> (repeat' split) <;> simp

@[simp] theorem State.announcePlan_port_frame (s : State) (n : Int) :
    (s.announcePlan n).port.grant = s.port.grant ∧ (s.announcePlan n).port.access = s.port.access := by
  simp only [State.announcePlan] <;> (repeat' split) <;> simp

@[simp] theorem State.referActive_loader_frame (s : State) :
    s.referActive.loader.calibration = s.loader.calibration ∧
    s.referActive.loader.calibrationWords = s.loader.calibrationWords ∧
    s.referActive.loader.load = s.loader.load := by
  simp only [State.referActive] <;> (repeat' split) <;> simp

@[simp] theorem State.openStationIn_accumulator_frame (s : State) (i : BankId) (n : Int) :
    (s.openStationIn i n).accumulator.commit = s.accumulator.commit ∧
    (s.openStationIn i n).accumulator.evaluationOrder = s.accumulator.evaluationOrder := by
  simp only [State.openStationIn] <;> (repeat' split) <;> simp

@[simp] theorem State.openStationIn_loader_frame (s : State) (i : BankId) (n : Int) :
    (s.openStationIn i n).loader.calibration = s.loader.calibration ∧
    (s.openStationIn i n).loader.calibrationWords = s.loader.calibrationWords ∧
    (s.openStationIn i n).loader.load = s.loader.load := by
  simp only [State.openStationIn] <;> (repeat' split) <;> simp

@[simp] theorem State.openStationIn_chainage_frame (s : State) (i : BankId) (n : Int) :
    (s.openStationIn i n).chainage.mode = s.chainage.mode ∧
    (s.openStationIn i n).chainage.chainage = s.chainage.chainage ∧
    (s.openStationIn i n).chainage.peak = s.chainage.peak ∧
    (s.openStationIn i n).chainage.tracker = s.chainage.tracker ∧
    (s.openStationIn i n).chainage.lineReference = s.chainage.lineReference ∧
    (s.openStationIn i n).chainage.marker = s.chainage.marker := by
  simp only [State.openStationIn] <;> (repeat' split) <;> simp

@[simp] theorem State.openStation_accumulator_frame (s : State) (i : BankId) (n : Int) :
    (s.openStation i n).accumulator.commit = s.accumulator.commit ∧
    (s.openStation i n).accumulator.evaluationOrder = s.accumulator.evaluationOrder := by
  simp only [State.openStation] <;> (repeat' split) <;> simp

@[simp] theorem State.openStation_loader_frame (s : State) (i : BankId) (n : Int) :
    (s.openStation i n).loader.calibration = s.loader.calibration ∧
    (s.openStation i n).loader.calibrationWords = s.loader.calibrationWords ∧
    (s.openStation i n).loader.load = s.loader.load := by
  simp only [State.openStation] <;> (repeat' split) <;> simp

@[simp] theorem State.openStation_chainage_frame (s : State) (i : BankId) (n : Int) :
    (s.openStation i n).chainage.mode = s.chainage.mode ∧
    (s.openStation i n).chainage.chainage = s.chainage.chainage ∧
    (s.openStation i n).chainage.peak = s.chainage.peak ∧
    (s.openStation i n).chainage.tracker = s.chainage.tracker ∧
    (s.openStation i n).chainage.lineReference = s.chainage.lineReference ∧
    (s.openStation i n).chainage.marker = s.chainage.marker := by
  simp only [State.openStation] <;> (repeat' split) <;> simp

@[simp] theorem State.openStation_notices_frame (s : State) (i : BankId) (n : Int) :
    (s.openStation i n).notices.fault = s.notices.fault ∧
    (s.openStation i n).notices.linkFault = s.notices.linkFault ∧
    (s.openStation i n).notices.alerts = s.notices.alerts ∧
    (s.openStation i n).notices.displaced = s.notices.displaced ∧
    (s.openStation i n).notices.markerMismatch = s.notices.markerMismatch ∧
    (s.openStation i n).notices.cantFault = s.notices.cantFault ∧
    (s.openStation i n).notices.setupFault = s.notices.setupFault ∧
    (s.openStation i n).notices.reversal = s.notices.reversal ∧
    (s.openStation i n).notices.stopped = s.notices.stopped ∧
    (s.openStation i n).notices.unannounced = s.notices.unannounced ∧
    (s.openStation i n).notices.detail = s.notices.detail := by
  simp only [State.openStation] <;> (repeat' split) <;> simp

@[simp] theorem State.openStation_sheets_frame (s : State) (i : BankId) (n : Int) :
    (s.openStation i n).sheets.sheetCount = s.sheets.sheetCount ∧
    (s.openStation i n).sheets.sheetSize = s.sheets.sheetSize ∧
    (s.openStation i n).sheets.sheetBase = s.sheets.sheetBase ∧
    (s.openStation i n).sheets.closedSheets = s.sheets.closedSheets ∧
    (s.openStation i n).sheets.stopMode = s.sheets.stopMode ∧
    (s.openStation i n).sheets.endWaiting = s.sheets.endWaiting ∧
    (s.openStation i n).sheets.endWritten = s.sheets.endWritten := by
  simp only [State.openStation] <;> (repeat' split) <;> simp

@[simp] theorem State.openStation_port_frame (s : State) (i : BankId) (n : Int) :
    (s.openStation i n).port.grant = s.port.grant ∧ (s.openStation i n).port.access = s.port.access := by
  simp only [State.openStation] <;> (repeat' split) <;> simp

@[simp] theorem State.freeBank_accumulator_frame (s : State) (i : BankId) :
    (s.freeBank i).accumulator.openingCounter = s.accumulator.openingCounter ∧
    (s.freeBank i).accumulator.commit = s.accumulator.commit := by
  simp only [State.freeBank] <;> (repeat' split) <;> simp

@[simp] theorem State.freeBank_loader_frame (s : State) (i : BankId) :
    (s.freeBank i).loader.calibration = s.loader.calibration := by
  simp only [State.freeBank] <;> (repeat' split) <;> simp

@[simp] theorem State.freeBank_notices_frame (s : State) (i : BankId) :
    (s.freeBank i).notices.fault = s.notices.fault ∧ (s.freeBank i).notices.linkFault = s.notices.linkFault ∧
    (s.freeBank i).notices.alerts = s.notices.alerts ∧ (s.freeBank i).notices.displaced = s.notices.displaced ∧
    (s.freeBank i).notices.starved = s.notices.starved ∧
    (s.freeBank i).notices.markerMismatch = s.notices.markerMismatch ∧
    (s.freeBank i).notices.cantFault = s.notices.cantFault ∧
    (s.freeBank i).notices.planTaken = s.notices.planTaken ∧ (s.freeBank i).notices.reversal = s.notices.reversal ∧
    (s.freeBank i).notices.stopped = s.notices.stopped ∧
    (s.freeBank i).notices.unannounced = s.notices.unannounced ∧
    (s.freeBank i).notices.detail = s.notices.detail := by
  simp only [State.freeBank] <;> (repeat' split) <;> simp

@[simp] theorem State.freeBank_port_frame (s : State) (i : BankId) :
    (s.freeBank i).port.grant = s.port.grant ∧ (s.freeBank i).port.access = s.port.access := by
  simp only [State.freeBank] <;> (repeat' split) <;> simp

@[simp] theorem State.closeBank_accumulator_frame (s : State) (i : BankId) (n : Nat) (c : Bool) :
    (s.closeBank i n c).accumulator.openingCounter = s.accumulator.openingCounter ∧
    (s.closeBank i n c).accumulator.commit = s.accumulator.commit := by
  simp only [State.closeBank] <;> (repeat' split) <;> simp

@[simp] theorem State.takeBoundary_accumulator_frame (s : State) (i : BankId) (n : Int) :
    (s.takeBoundary i n).accumulator.commit = s.accumulator.commit := by
  simp only [State.takeBoundary] <;> (repeat' split) <;> simp

@[simp] theorem State.takeBoundary_loader_frame (s : State) (i : BankId) (n : Int) :
    (s.takeBoundary i n).loader.calibration = s.loader.calibration ∧
    (s.takeBoundary i n).loader.calibrationWords = s.loader.calibrationWords ∧
    (s.takeBoundary i n).loader.load = s.loader.load := by
  simp only [State.takeBoundary] <;> (repeat' split) <;> simp

@[simp] theorem State.takeBoundary_chainage_frame (s : State) (i : BankId) (n : Int) :
    (s.takeBoundary i n).chainage.mode = s.chainage.mode ∧
    (s.takeBoundary i n).chainage.chainage = s.chainage.chainage ∧
    (s.takeBoundary i n).chainage.peak = s.chainage.peak ∧
    (s.takeBoundary i n).chainage.tracker = s.chainage.tracker ∧
    (s.takeBoundary i n).chainage.lineReference = s.chainage.lineReference ∧
    (s.takeBoundary i n).chainage.marker = s.chainage.marker := by
  simp only [State.takeBoundary] <;> (repeat' split) <;> simp

@[simp] theorem State.takeBoundary_notices_frame (s : State) (i : BankId) (n : Int) :
    (s.takeBoundary i n).notices.fault = s.notices.fault ∧
    (s.takeBoundary i n).notices.linkFault = s.notices.linkFault ∧
    (s.takeBoundary i n).notices.alerts = s.notices.alerts ∧
    (s.takeBoundary i n).notices.displaced = s.notices.displaced ∧
    (s.takeBoundary i n).notices.markerMismatch = s.notices.markerMismatch ∧
    (s.takeBoundary i n).notices.cantFault = s.notices.cantFault ∧
    (s.takeBoundary i n).notices.setupFault = s.notices.setupFault ∧
    (s.takeBoundary i n).notices.reversal = s.notices.reversal ∧
    (s.takeBoundary i n).notices.stopped = s.notices.stopped ∧
    (s.takeBoundary i n).notices.unannounced = s.notices.unannounced ∧
    (s.takeBoundary i n).notices.detail = s.notices.detail := by
  simp only [State.takeBoundary] <;> (repeat' split) <;> simp

@[simp] theorem State.takeBoundary_sheets_frame (s : State) (i : BankId) (n : Int) :
    (s.takeBoundary i n).sheets.sheetCount = s.sheets.sheetCount ∧
    (s.takeBoundary i n).sheets.sheetSize = s.sheets.sheetSize ∧
    (s.takeBoundary i n).sheets.sheetBase = s.sheets.sheetBase ∧
    (s.takeBoundary i n).sheets.closedSheets = s.sheets.closedSheets ∧
    (s.takeBoundary i n).sheets.stopMode = s.sheets.stopMode ∧
    (s.takeBoundary i n).sheets.endWaiting = s.sheets.endWaiting ∧
    (s.takeBoundary i n).sheets.endWritten = s.sheets.endWritten := by
  simp only [State.takeBoundary] <;> (repeat' split) <;> simp

@[simp] theorem State.takeBoundary_port_frame (s : State) (i : BankId) (n : Int) :
    (s.takeBoundary i n).port.grant = s.port.grant ∧ (s.takeBoundary i n).port.access = s.port.access := by
  simp only [State.takeBoundary] <;> (repeat' split) <;> simp

@[simp] theorem State.takeHeldBoundary_accumulator_frame (s : State) :
    s.takeHeldBoundary.accumulator.commit = s.accumulator.commit := by
  simp only [State.takeHeldBoundary] <;> (repeat' split) <;> simp

@[simp] theorem State.takeHeldBoundary_loader_frame (s : State) :
    s.takeHeldBoundary.loader.calibration = s.loader.calibration ∧
    s.takeHeldBoundary.loader.calibrationWords = s.loader.calibrationWords ∧
    s.takeHeldBoundary.loader.load = s.loader.load := by
  simp only [State.takeHeldBoundary] <;> (repeat' split) <;> simp

@[simp] theorem State.takeHeldBoundary_chainage_frame (s : State) :
    s.takeHeldBoundary.chainage.mode = s.chainage.mode ∧
    s.takeHeldBoundary.chainage.chainage = s.chainage.chainage ∧
    s.takeHeldBoundary.chainage.peak = s.chainage.peak ∧ s.takeHeldBoundary.chainage.tracker = s.chainage.tracker ∧
    s.takeHeldBoundary.chainage.lineReference = s.chainage.lineReference ∧
    s.takeHeldBoundary.chainage.marker = s.chainage.marker := by
  simp only [State.takeHeldBoundary] <;> (repeat' split) <;> simp

@[simp] theorem State.takeHeldBoundary_notices_frame (s : State) :
    s.takeHeldBoundary.notices.fault = s.notices.fault ∧
    s.takeHeldBoundary.notices.linkFault = s.notices.linkFault ∧
    s.takeHeldBoundary.notices.alerts = s.notices.alerts ∧
    s.takeHeldBoundary.notices.displaced = s.notices.displaced ∧
    s.takeHeldBoundary.notices.markerMismatch = s.notices.markerMismatch ∧
    s.takeHeldBoundary.notices.cantFault = s.notices.cantFault ∧
    s.takeHeldBoundary.notices.setupFault = s.notices.setupFault ∧
    s.takeHeldBoundary.notices.reversal = s.notices.reversal ∧
    s.takeHeldBoundary.notices.stopped = s.notices.stopped ∧
    s.takeHeldBoundary.notices.unannounced = s.notices.unannounced ∧
    s.takeHeldBoundary.notices.detail = s.notices.detail := by
  simp only [State.takeHeldBoundary] <;> (repeat' split) <;> simp

@[simp] theorem State.takeHeldBoundary_sheets_frame (s : State) :
    s.takeHeldBoundary.sheets.sheetCount = s.sheets.sheetCount ∧
    s.takeHeldBoundary.sheets.sheetSize = s.sheets.sheetSize ∧
    s.takeHeldBoundary.sheets.sheetBase = s.sheets.sheetBase ∧
    s.takeHeldBoundary.sheets.closedSheets = s.sheets.closedSheets ∧
    s.takeHeldBoundary.sheets.stopMode = s.sheets.stopMode ∧
    s.takeHeldBoundary.sheets.endWaiting = s.sheets.endWaiting ∧
    s.takeHeldBoundary.sheets.endWritten = s.sheets.endWritten := by
  simp only [State.takeHeldBoundary] <;> (repeat' split) <;> simp

@[simp] theorem State.takeHeldBoundary_port_frame (s : State) :
    s.takeHeldBoundary.port.grant = s.port.grant ∧ s.takeHeldBoundary.port.access = s.port.access := by
  simp only [State.takeHeldBoundary] <;> (repeat' split) <;> simp

@[simp] theorem State.becomeEvaluating_accumulator_frame (s : State) (i : BankId) :
    (s.becomeEvaluating i).accumulator.commit = s.accumulator.commit := by
  simp only [State.becomeEvaluating] <;> (repeat' split) <;> simp

@[simp] theorem State.becomeEvaluating_loader_frame (s : State) (i : BankId) :
    (s.becomeEvaluating i).loader.calibration = s.loader.calibration := by
  simp only [State.becomeEvaluating] <;> (repeat' split) <;> simp

@[simp] theorem State.becomeEvaluating_chainage_frame (s : State) (i : BankId) :
    (s.becomeEvaluating i).chainage.mode = s.chainage.mode ∧
    (s.becomeEvaluating i).chainage.chainage = s.chainage.chainage ∧
    (s.becomeEvaluating i).chainage.peak = s.chainage.peak ∧
    (s.becomeEvaluating i).chainage.tracker = s.chainage.tracker ∧
    (s.becomeEvaluating i).chainage.lineReference = s.chainage.lineReference ∧
    (s.becomeEvaluating i).chainage.marker = s.chainage.marker := by
  simp only [State.becomeEvaluating] <;> (repeat' split) <;> simp

@[simp] theorem State.becomeEvaluating_notices_frame (s : State) (i : BankId) :
    (s.becomeEvaluating i).notices.fault = s.notices.fault ∧
    (s.becomeEvaluating i).notices.linkFault = s.notices.linkFault ∧
    (s.becomeEvaluating i).notices.alerts = s.notices.alerts ∧
    (s.becomeEvaluating i).notices.displaced = s.notices.displaced ∧
    (s.becomeEvaluating i).notices.markerMismatch = s.notices.markerMismatch ∧
    (s.becomeEvaluating i).notices.cantFault = s.notices.cantFault ∧
    (s.becomeEvaluating i).notices.reversal = s.notices.reversal ∧
    (s.becomeEvaluating i).notices.stopped = s.notices.stopped ∧
    (s.becomeEvaluating i).notices.unannounced = s.notices.unannounced ∧
    (s.becomeEvaluating i).notices.detail = s.notices.detail := by
  simp only [State.becomeEvaluating] <;> (repeat' split) <;> simp

@[simp] theorem State.becomeEvaluating_sheets_frame (s : State) (i : BankId) :
    (s.becomeEvaluating i).sheets.sheetCount = s.sheets.sheetCount ∧
    (s.becomeEvaluating i).sheets.sheetSize = s.sheets.sheetSize ∧
    (s.becomeEvaluating i).sheets.sheetBase = s.sheets.sheetBase ∧
    (s.becomeEvaluating i).sheets.closedSheets = s.sheets.closedSheets ∧
    (s.becomeEvaluating i).sheets.stopMode = s.sheets.stopMode ∧
    (s.becomeEvaluating i).sheets.endWaiting = s.sheets.endWaiting ∧
    (s.becomeEvaluating i).sheets.endWritten = s.sheets.endWritten := by
  simp only [State.becomeEvaluating] <;> (repeat' split) <;> simp

@[simp] theorem State.becomeEvaluating_port_frame (s : State) (i : BankId) :
    (s.becomeEvaluating i).port.grant = s.port.grant ∧ (s.becomeEvaluating i).port.access = s.port.access := by
  simp only [State.becomeEvaluating] <;> (repeat' split) <;> simp

@[simp] theorem State.evaluationRound_accumulator_frame (s : State) :
    s.evaluationRound.accumulator.commit = s.accumulator.commit := by
  simp only [State.evaluationRound] <;> (repeat' split) <;> simp

@[simp] theorem State.evaluationRound_loader_frame (s : State) :
    s.evaluationRound.loader.calibration = s.loader.calibration := by
  simp only [State.evaluationRound] <;> (repeat' split) <;> simp

@[simp] theorem State.evaluationRound_chainage_frame (s : State) :
    s.evaluationRound.chainage.mode = s.chainage.mode ∧ s.evaluationRound.chainage.chainage = s.chainage.chainage ∧
    s.evaluationRound.chainage.peak = s.chainage.peak ∧ s.evaluationRound.chainage.tracker = s.chainage.tracker ∧
    s.evaluationRound.chainage.lineReference = s.chainage.lineReference ∧
    s.evaluationRound.chainage.marker = s.chainage.marker := by
  simp only [State.evaluationRound] <;> (repeat' split) <;> simp

@[simp] theorem State.evaluationRound_notices_frame (s : State) :
    s.evaluationRound.notices.fault = s.notices.fault ∧ s.evaluationRound.notices.linkFault = s.notices.linkFault ∧
    s.evaluationRound.notices.alerts = s.notices.alerts ∧
    s.evaluationRound.notices.displaced = s.notices.displaced ∧
    s.evaluationRound.notices.markerMismatch = s.notices.markerMismatch ∧
    s.evaluationRound.notices.cantFault = s.notices.cantFault ∧
    s.evaluationRound.notices.reversal = s.notices.reversal ∧
    s.evaluationRound.notices.stopped = s.notices.stopped ∧
    s.evaluationRound.notices.unannounced = s.notices.unannounced ∧
    s.evaluationRound.notices.detail = s.notices.detail := by
  simp only [State.evaluationRound] <;> (repeat' split) <;> simp

@[simp] theorem State.evaluationRound_sheets_frame (s : State) :
    s.evaluationRound.sheets.sheetCount = s.sheets.sheetCount ∧
    s.evaluationRound.sheets.sheetSize = s.sheets.sheetSize ∧
    s.evaluationRound.sheets.sheetBase = s.sheets.sheetBase ∧
    s.evaluationRound.sheets.closedSheets = s.sheets.closedSheets ∧
    s.evaluationRound.sheets.stopMode = s.sheets.stopMode ∧
    s.evaluationRound.sheets.endWaiting = s.sheets.endWaiting ∧
    s.evaluationRound.sheets.endWritten = s.sheets.endWritten := by
  simp only [State.evaluationRound] <;> (repeat' split) <;> simp

@[simp] theorem State.evaluationRound_port_frame (s : State) :
    s.evaluationRound.port.grant = s.port.grant ∧ s.evaluationRound.port.access = s.port.access := by
  simp only [State.evaluationRound] <;> (repeat' split) <;> simp

@[simp] theorem State.advanceEvaluation_accumulator_frame (s : State) :
    s.advanceEvaluation.accumulator.commit = s.accumulator.commit := by
  simp only [State.advanceEvaluation] <;> (repeat' split) <;> simp

@[simp] theorem State.advanceEvaluation_loader_frame (s : State) :
    s.advanceEvaluation.loader.calibration = s.loader.calibration := by
  simp only [State.advanceEvaluation] <;> (repeat' split) <;> simp

@[simp] theorem State.advanceEvaluation_chainage_frame (s : State) :
    s.advanceEvaluation.chainage.mode = s.chainage.mode ∧
    s.advanceEvaluation.chainage.chainage = s.chainage.chainage ∧
    s.advanceEvaluation.chainage.peak = s.chainage.peak ∧
    s.advanceEvaluation.chainage.tracker = s.chainage.tracker ∧
    s.advanceEvaluation.chainage.lineReference = s.chainage.lineReference ∧
    s.advanceEvaluation.chainage.marker = s.chainage.marker := by
  simp only [State.advanceEvaluation] <;> (repeat' split) <;> simp

@[simp] theorem State.advanceEvaluation_notices_frame (s : State) :
    s.advanceEvaluation.notices.fault = s.notices.fault ∧
    s.advanceEvaluation.notices.linkFault = s.notices.linkFault ∧
    s.advanceEvaluation.notices.alerts = s.notices.alerts ∧
    s.advanceEvaluation.notices.displaced = s.notices.displaced ∧
    s.advanceEvaluation.notices.markerMismatch = s.notices.markerMismatch ∧
    s.advanceEvaluation.notices.cantFault = s.notices.cantFault ∧
    s.advanceEvaluation.notices.reversal = s.notices.reversal ∧
    s.advanceEvaluation.notices.stopped = s.notices.stopped ∧
    s.advanceEvaluation.notices.unannounced = s.notices.unannounced ∧
    s.advanceEvaluation.notices.detail = s.notices.detail := by
  simp only [State.advanceEvaluation] <;> (repeat' split) <;> simp

@[simp] theorem State.advanceEvaluation_sheets_frame (s : State) :
    s.advanceEvaluation.sheets.sheetCount = s.sheets.sheetCount ∧
    s.advanceEvaluation.sheets.sheetSize = s.sheets.sheetSize ∧
    s.advanceEvaluation.sheets.sheetBase = s.sheets.sheetBase ∧
    s.advanceEvaluation.sheets.closedSheets = s.sheets.closedSheets ∧
    s.advanceEvaluation.sheets.stopMode = s.sheets.stopMode ∧
    s.advanceEvaluation.sheets.endWaiting = s.sheets.endWaiting ∧
    s.advanceEvaluation.sheets.endWritten = s.sheets.endWritten := by
  simp only [State.advanceEvaluation] <;> (repeat' split) <;> simp

@[simp] theorem State.advanceEvaluation_port_frame (s : State) :
    s.advanceEvaluation.port.grant = s.port.grant ∧ s.advanceEvaluation.port.access = s.port.access := by
  simp only [State.advanceEvaluation] <;> (repeat' split) <;> simp

@[simp] theorem State.dropInHand_accumulator_frame (s : State) (t : Tag) :
    (s.dropInHand t).accumulator.openingCounter = s.accumulator.openingCounter ∧
    (s.dropInHand t).accumulator.commit = s.accumulator.commit ∧
    (s.dropInHand t).accumulator.evaluationOrder = s.accumulator.evaluationOrder := by
  simp only [State.dropInHand] <;> (repeat' split) <;> simp

@[simp] theorem State.countDiscard_accumulator_frame (s : State) (t : Tag) :
    (s.countDiscard t).accumulator.openingCounter = s.accumulator.openingCounter ∧
    (s.countDiscard t).accumulator.commit = s.accumulator.commit ∧
    (s.countDiscard t).accumulator.evaluationOrder = s.accumulator.evaluationOrder := by
  simp only [State.countDiscard] <;> (repeat' split) <;> simp

@[simp] theorem State.reportDiscard_accumulator_frame (s : State) (t : Option Tag) :
    (s.reportDiscard t).accumulator.openingCounter = s.accumulator.openingCounter ∧
    (s.reportDiscard t).accumulator.commit = s.accumulator.commit ∧
    (s.reportDiscard t).accumulator.evaluationOrder = s.accumulator.evaluationOrder := by
  simp only [State.reportDiscard] <;> (repeat' split) <;> simp

@[simp] theorem State.startCommit_accumulator_frame (s : State) (h : Handed) :
    (s.startCommit h).accumulator.openingCounter = s.accumulator.openingCounter ∧
    (s.startCommit h).accumulator.evaluationOrder = s.accumulator.evaluationOrder ∧
    (s.startCommit h).accumulator.bank0 = s.accumulator.bank0 ∧
    (s.startCommit h).accumulator.bank1 = s.accumulator.bank1 := by
  simp only [State.startCommit] <;> (repeat' split) <;> simp

@[simp] theorem State.dropHanded_accumulator_frame (s : State) (h : Handed) :
    (s.dropHanded h).accumulator.openingCounter = s.accumulator.openingCounter ∧
    (s.dropHanded h).accumulator.commit = s.accumulator.commit ∧
    (s.dropHanded h).accumulator.evaluationOrder = s.accumulator.evaluationOrder := by
  simp only [State.dropHanded] <;> (repeat' split) <;> simp

@[simp] theorem State.dropHanded_sweep_frame (s : State) (h : Handed) :
    (s.dropHanded h).sweep.intake = s.sweep.intake ∧ (s.dropHanded h).sweep.receiver = s.sweep.receiver ∧
    (s.dropHanded h).sweep.current = s.sweep.current ∧ (s.dropHanded h).sweep.lastGood = s.sweep.lastGood ∧
    (s.dropHanded h).sweep.markTimer = s.sweep.markTimer ∧ (s.dropHanded h).sweep.latch = s.sweep.latch ∧
    (s.dropHanded h).sweep.runFaults = s.sweep.runFaults ∧
    (s.dropHanded h).sweep.lastCommand = s.sweep.lastCommand := by
  simp only [State.dropHanded] <;> (repeat' split) <;> simp

@[simp] theorem State.judgeHandedOnce_accumulator_frame (s : State) :
    s.judgeHandedOnce.accumulator.openingCounter = s.accumulator.openingCounter ∧
    s.judgeHandedOnce.accumulator.evaluationOrder = s.accumulator.evaluationOrder := by
  simp only [State.judgeHandedOnce] <;> (repeat' split) <;> simp

@[simp] theorem State.judgeHandedOnce_sweep_frame (s : State) :
    s.judgeHandedOnce.sweep.intake = s.sweep.intake ∧ s.judgeHandedOnce.sweep.receiver = s.sweep.receiver ∧
    s.judgeHandedOnce.sweep.current = s.sweep.current ∧ s.judgeHandedOnce.sweep.lastGood = s.sweep.lastGood ∧
    s.judgeHandedOnce.sweep.markTimer = s.sweep.markTimer ∧ s.judgeHandedOnce.sweep.latch = s.sweep.latch ∧
    s.judgeHandedOnce.sweep.runFaults = s.sweep.runFaults ∧
    s.judgeHandedOnce.sweep.lastCommand = s.sweep.lastCommand := by
  simp only [State.judgeHandedOnce] <;> (repeat' split) <;> simp

@[simp] theorem State.judgeHanded_accumulator_frame (s : State) :
    s.judgeHanded.accumulator.openingCounter = s.accumulator.openingCounter ∧
    s.judgeHanded.accumulator.evaluationOrder = s.accumulator.evaluationOrder := by
  simp only [State.judgeHanded] <;> (repeat' split) <;> simp

@[simp] theorem State.judgeHanded_sweep_frame (s : State) :
    s.judgeHanded.sweep.intake = s.sweep.intake ∧ s.judgeHanded.sweep.receiver = s.sweep.receiver ∧
    s.judgeHanded.sweep.current = s.sweep.current ∧ s.judgeHanded.sweep.lastGood = s.sweep.lastGood ∧
    s.judgeHanded.sweep.markTimer = s.sweep.markTimer ∧ s.judgeHanded.sweep.latch = s.sweep.latch ∧
    s.judgeHanded.sweep.runFaults = s.sweep.runFaults ∧ s.judgeHanded.sweep.lastCommand = s.sweep.lastCommand := by
  simp only [State.judgeHanded] <;> (repeat' split) <;> simp

@[simp] theorem State.cutCommit_accumulator_frame (s : State) :
    s.cutCommit.accumulator.openingCounter = s.accumulator.openingCounter ∧
    s.cutCommit.accumulator.evaluationOrder = s.accumulator.evaluationOrder := by
  simp only [State.cutCommit] <;> (repeat' split) <;> simp

@[simp] theorem State.dropBanks_accumulator_frame (s : State) :
    s.dropBanks.accumulator.openingCounter = s.accumulator.openingCounter := by
  simp only [State.dropBanks] <;> (repeat' split) <;> simp

@[simp] theorem State.dropBanks_loader_frame (s : State) :
    s.dropBanks.loader.calibration = s.loader.calibration := by
  simp only [State.dropBanks] <;> (repeat' split) <;> simp

@[simp] theorem State.dropBanks_notices_frame (s : State) :
    s.dropBanks.notices.fault = s.notices.fault ∧ s.dropBanks.notices.linkFault = s.notices.linkFault ∧
    s.dropBanks.notices.alerts = s.notices.alerts ∧ s.dropBanks.notices.displaced = s.notices.displaced ∧
    s.dropBanks.notices.starved = s.notices.starved ∧
    s.dropBanks.notices.markerMismatch = s.notices.markerMismatch ∧
    s.dropBanks.notices.cantFault = s.notices.cantFault ∧ s.dropBanks.notices.planTaken = s.notices.planTaken ∧
    s.dropBanks.notices.reversal = s.notices.reversal ∧ s.dropBanks.notices.stopped = s.notices.stopped ∧
    s.dropBanks.notices.unannounced = s.notices.unannounced ∧ s.dropBanks.notices.detail = s.notices.detail := by
  simp only [State.dropBanks] <;> (repeat' split) <;> simp

@[simp] theorem State.dropBanks_port_frame (s : State) :
    s.dropBanks.port.grant = s.port.grant ∧ s.dropBanks.port.access = s.port.access := by
  simp only [State.dropBanks] <;> (repeat' split) <;> simp

@[simp] theorem State.dropAssessments_evaluator_frame (s : State) :
    s.dropAssessments.evaluator.template = s.evaluator.template ∧
    s.dropAssessments.evaluator.tolerance = s.evaluator.tolerance ∧
    s.dropAssessments.evaluator.warn = s.evaluator.warn ∧
    s.dropAssessments.evaluator.blindLimit = s.evaluator.blindLimit ∧
    s.dropAssessments.evaluator.nextSector = s.evaluator.nextSector := by
  simp only [State.dropAssessments] <;> (repeat' split) <;> simp

@[simp] theorem State.dropAssessments_comparator_frame (s : State) :
    s.dropAssessments.comparator.baselineUse = s.comparator.baselineUse ∧
    s.dropAssessments.comparator.deformLimit = s.comparator.deformLimit ∧
    s.dropAssessments.comparator.meanFloor = s.comparator.meanFloor ∧
    s.dropAssessments.comparator.mode = s.comparator.mode ∧
    s.dropAssessments.comparator.descriptor = s.comparator.descriptor ∧
    s.dropAssessments.comparator.condition = s.comparator.condition ∧
    s.dropAssessments.comparator.nextSector = s.comparator.nextSector := by
  simp only [State.dropAssessments] <;> (repeat' split) <;> simp

@[simp] theorem State.dropAssessments_port_frame (s : State) :
    s.dropAssessments.port.writerQueue = s.port.writerQueue ∧
    s.dropAssessments.port.controlQueue = s.port.controlQueue ∧
    s.dropAssessments.port.loaderQueue = s.port.loaderQueue ∧ s.dropAssessments.port.access = s.port.access := by
  simp only [State.dropAssessments] <;> (repeat' split) <;> simp

@[simp] theorem State.sendStop_sweep_frame (s : State) :
    s.sendStop.sweep.intake = s.sweep.intake ∧ s.sendStop.sweep.receiver = s.sweep.receiver ∧
    s.sendStop.sweep.bufferA = s.sweep.bufferA ∧ s.sendStop.sweep.bufferB = s.sweep.bufferB ∧
    s.sendStop.sweep.current = s.sweep.current ∧ s.sendStop.sweep.handover = s.sweep.handover ∧
    s.sendStop.sweep.lastGood = s.sweep.lastGood ∧ s.sendStop.sweep.markTimer = s.sweep.markTimer ∧
    s.sendStop.sweep.latch = s.sweep.latch ∧ s.sendStop.sweep.runFaults = s.sweep.runFaults := by
  simp only [State.sendStop] <;> (repeat' split) <;> simp

@[simp] theorem State.dropCurrent_sweep_frame (s : State) (n : Receiver) :
    (s.dropCurrent n).sweep.intake = s.sweep.intake ∧ (s.dropCurrent n).sweep.handover = s.sweep.handover ∧
    (s.dropCurrent n).sweep.lastGood = s.sweep.lastGood ∧ (s.dropCurrent n).sweep.markTimer = s.sweep.markTimer ∧
    (s.dropCurrent n).sweep.latch = s.sweep.latch ∧ (s.dropCurrent n).sweep.runFaults = s.sweep.runFaults ∧
    (s.dropCurrent n).sweep.lastCommand = s.sweep.lastCommand := by
  simp only [State.dropCurrent] <;> (repeat' split) <;> simp

@[simp] theorem State.discardCurrent_sweep_frame (s : State) (n : Receiver) :
    (s.discardCurrent n).sweep.intake = s.sweep.intake ∧ (s.discardCurrent n).sweep.handover = s.sweep.handover ∧
    (s.discardCurrent n).sweep.lastGood = s.sweep.lastGood ∧
    (s.discardCurrent n).sweep.markTimer = s.sweep.markTimer ∧ (s.discardCurrent n).sweep.latch = s.sweep.latch ∧
    (s.discardCurrent n).sweep.runFaults = s.sweep.runFaults ∧
    (s.discardCurrent n).sweep.lastCommand = s.sweep.lastCommand := by
  simp only [State.discardCurrent] <;> (repeat' split) <;> simp

@[simp] theorem State.discardCurrent_accumulator_frame (s : State) (n : Receiver) :
    (s.discardCurrent n).accumulator.openingCounter = s.accumulator.openingCounter ∧
    (s.discardCurrent n).accumulator.commit = s.accumulator.commit ∧
    (s.discardCurrent n).accumulator.evaluationOrder = s.accumulator.evaluationOrder := by
  simp only [State.discardCurrent] <;> (repeat' split) <;> simp

@[simp] theorem State.finishDraining_control_frame (s : State) :
    s.finishDraining.control.survey = s.control.survey ∧
    s.finishDraining.control.startPhase = s.control.startPhase ∧
    s.finishDraining.control.stopMode = s.control.stopMode ∧
    s.finishDraining.control.planOffset = s.control.planOffset ∧
    s.finishDraining.control.geometry = s.control.geometry ∧
    s.finishDraining.control.lastKind = s.control.lastKind ∧
    s.finishDraining.control.lastResult = s.control.lastResult ∧ s.finishDraining.control.area = s.control.area ∧
    s.finishDraining.control.interruptEnable = s.control.interruptEnable := by
  simp only [State.finishDraining] <;> (repeat' split) <;> simp

@[simp] theorem State.finishDraining_sheets_frame (s : State) :
    s.finishDraining.sheets.sheetCount = s.sheets.sheetCount ∧
    s.finishDraining.sheets.sheetSize = s.sheets.sheetSize ∧
    s.finishDraining.sheets.sheetBase = s.sheets.sheetBase ∧ s.finishDraining.sheets.runLost = s.sheets.runLost ∧
    s.finishDraining.sheets.closedSheets = s.sheets.closedSheets ∧
    s.finishDraining.sheets.stopMode = s.sheets.stopMode ∧
    s.finishDraining.sheets.endWritten = s.sheets.endWritten := by
  simp only [State.finishDraining] <;> (repeat' split) <;> simp

@[simp] theorem State.finishDraining_notices_frame (s : State) :
    s.finishDraining.notices.fault = s.notices.fault ∧ s.finishDraining.notices.linkFault = s.notices.linkFault ∧
    s.finishDraining.notices.alerts = s.notices.alerts ∧ s.finishDraining.notices.displaced = s.notices.displaced ∧
    s.finishDraining.notices.markerMismatch = s.notices.markerMismatch ∧
    s.finishDraining.notices.cantFault = s.notices.cantFault ∧
    s.finishDraining.notices.setupFault = s.notices.setupFault ∧
    s.finishDraining.notices.planTaken = s.notices.planTaken ∧
    s.finishDraining.notices.reversal = s.notices.reversal ∧ s.finishDraining.notices.stopped = s.notices.stopped ∧
    s.finishDraining.notices.unannounced = s.notices.unannounced ∧
    s.finishDraining.notices.detail = s.notices.detail := by
  simp only [State.finishDraining] <;> (repeat' split) <;> simp

@[simp] theorem State.finishDraining_port_frame (s : State) :
    s.finishDraining.port.grant = s.port.grant ∧ s.finishDraining.port.access = s.port.access := by
  simp only [State.finishDraining] <;> (repeat' split) <;> simp

@[simp] theorem State.settle_control_frame (s : State) :
    s.settle.control.survey = s.control.survey ∧ s.settle.control.startPhase = s.control.startPhase ∧
    s.settle.control.stopMode = s.control.stopMode ∧ s.settle.control.planOffset = s.control.planOffset ∧
    s.settle.control.geometry = s.control.geometry ∧ s.settle.control.lastKind = s.control.lastKind ∧
    s.settle.control.lastResult = s.control.lastResult ∧ s.settle.control.area = s.control.area ∧
    s.settle.control.interruptEnable = s.control.interruptEnable := by
  simp only [State.settle] <;> (repeat' split) <;> simp

@[simp] theorem State.settle_sheets_frame (s : State) :
    s.settle.sheets.sheetCount = s.sheets.sheetCount ∧ s.settle.sheets.sheetSize = s.sheets.sheetSize ∧
    s.settle.sheets.sheetBase = s.sheets.sheetBase ∧ s.settle.sheets.runLost = s.sheets.runLost ∧
    s.settle.sheets.closedSheets = s.sheets.closedSheets ∧ s.settle.sheets.stopMode = s.sheets.stopMode ∧
    s.settle.sheets.endWritten = s.sheets.endWritten := by
  simp only [State.settle] <;> (repeat' split) <;> simp

@[simp] theorem State.settle_notices_frame (s : State) :
    s.settle.notices.fault = s.notices.fault ∧ s.settle.notices.linkFault = s.notices.linkFault ∧
    s.settle.notices.alerts = s.notices.alerts ∧ s.settle.notices.displaced = s.notices.displaced ∧
    s.settle.notices.markerMismatch = s.notices.markerMismatch ∧ s.settle.notices.cantFault = s.notices.cantFault ∧
    s.settle.notices.setupFault = s.notices.setupFault ∧ s.settle.notices.planTaken = s.notices.planTaken ∧
    s.settle.notices.reversal = s.notices.reversal ∧ s.settle.notices.stopped = s.notices.stopped ∧
    s.settle.notices.unannounced = s.notices.unannounced ∧ s.settle.notices.detail = s.notices.detail := by
  simp only [State.settle] <;> (repeat' split) <;> simp

@[simp] theorem State.settle_port_frame (s : State) :
    s.settle.port.access = s.port.access := by
  simp only [State.settle] <;> (repeat' split) <;> simp

@[simp] theorem State.storeSample_sweep_frame (s : State) (i : BufferId) (x : Sample) :
    (s.storeSample i x).sweep.intake = s.sweep.intake ∧ (s.storeSample i x).sweep.receiver = s.sweep.receiver ∧
    (s.storeSample i x).sweep.current = s.sweep.current ∧ (s.storeSample i x).sweep.handover = s.sweep.handover ∧
    (s.storeSample i x).sweep.lastGood = s.sweep.lastGood ∧
    (s.storeSample i x).sweep.markTimer = s.sweep.markTimer ∧ (s.storeSample i x).sweep.latch = s.sweep.latch ∧
    (s.storeSample i x).sweep.runFaults = s.sweep.runFaults ∧
    (s.storeSample i x).sweep.lastCommand = s.sweep.lastCommand := by
  simp only [State.storeSample] <;> (repeat' split) <;> simp

@[simp] theorem State.enterFaulted_sweep_frame (s : State) (c : FaultCause) (p : Word) :
    (s.enterFaulted c p).sweep.lastGood = s.sweep.lastGood ∧ (s.enterFaulted c p).sweep.latch = s.sweep.latch ∧
    (s.enterFaulted c p).sweep.runFaults = s.sweep.runFaults := by
  simp only [State.enterFaulted] <;> (repeat' split) <;> simp

@[simp] theorem State.enterFaulted_chainage_frame (s : State) (c : FaultCause) (p : Word) :
    (s.enterFaulted c p).chainage.chainage = s.chainage.chainage ∧
    (s.enterFaulted c p).chainage.peak = s.chainage.peak ∧
    (s.enterFaulted c p).chainage.tracker = s.chainage.tracker ∧
    (s.enterFaulted c p).chainage.lineReference = s.chainage.lineReference := by
  simp only [State.enterFaulted] <;> (repeat' split) <;> simp

@[simp] theorem State.enterFaulted_cant_frame (s : State) (c : FaultCause) (p : Word) :
    (s.enterFaulted c p).cant.history = s.cant.history ∧ (s.enterFaulted c p).cant.failures = s.cant.failures := by
  simp only [State.enterFaulted] <;> (repeat' split) <;> simp

@[simp] theorem State.enterFaulted_accumulator_frame (s : State) (c : FaultCause) (p : Word) :
    (s.enterFaulted c p).accumulator.openingCounter = s.accumulator.openingCounter := by
  simp only [State.enterFaulted] <;> (repeat' split) <;> simp

@[simp] theorem State.enterFaulted_evaluator_frame (s : State) (c : FaultCause) (p : Word) :
    (s.enterFaulted c p).evaluator.template = s.evaluator.template ∧
    (s.enterFaulted c p).evaluator.tolerance = s.evaluator.tolerance ∧
    (s.enterFaulted c p).evaluator.warn = s.evaluator.warn ∧
    (s.enterFaulted c p).evaluator.blindLimit = s.evaluator.blindLimit ∧
    (s.enterFaulted c p).evaluator.nextSector = s.evaluator.nextSector := by
  simp only [State.enterFaulted] <;> (repeat' split) <;> simp

@[simp] theorem State.enterFaulted_comparator_frame (s : State) (c : FaultCause) (p : Word) :
    (s.enterFaulted c p).comparator.baselineUse = s.comparator.baselineUse ∧
    (s.enterFaulted c p).comparator.deformLimit = s.comparator.deformLimit ∧
    (s.enterFaulted c p).comparator.meanFloor = s.comparator.meanFloor ∧
    (s.enterFaulted c p).comparator.mode = s.comparator.mode ∧
    (s.enterFaulted c p).comparator.descriptor = s.comparator.descriptor ∧
    (s.enterFaulted c p).comparator.condition = s.comparator.condition ∧
    (s.enterFaulted c p).comparator.nextSector = s.comparator.nextSector := by
  simp only [State.enterFaulted] <;> (repeat' split) <;> simp

@[simp] theorem State.enterFaulted_loader_frame (s : State) (c : FaultCause) (p : Word) :
    (s.enterFaulted c p).loader.calibration = s.loader.calibration := by
  simp only [State.enterFaulted] <;> (repeat' split) <;> simp

@[simp] theorem State.enterFaulted_sheets_frame (s : State) (c : FaultCause) (p : Word) :
    (s.enterFaulted c p).sheets.sheetCount = s.sheets.sheetCount ∧
    (s.enterFaulted c p).sheets.sheetSize = s.sheets.sheetSize ∧
    (s.enterFaulted c p).sheets.sheetBase = s.sheets.sheetBase ∧ (s.enterFaulted c p).sheets.lost = s.sheets.lost ∧
    (s.enterFaulted c p).sheets.runLost = s.sheets.runLost ∧
    (s.enterFaulted c p).sheets.sequence = s.sheets.sequence := by
  simp only [State.enterFaulted] <;> (repeat' split) <;> simp

@[simp] theorem State.enterFaulted_notices_frame (s : State) (c : FaultCause) (p : Word) :
    (s.enterFaulted c p).notices.linkFault = s.notices.linkFault ∧
    (s.enterFaulted c p).notices.alerts = s.notices.alerts ∧
    (s.enterFaulted c p).notices.displaced = s.notices.displaced ∧
    (s.enterFaulted c p).notices.starved = s.notices.starved ∧
    (s.enterFaulted c p).notices.markerMismatch = s.notices.markerMismatch ∧
    (s.enterFaulted c p).notices.cantFault = s.notices.cantFault ∧
    (s.enterFaulted c p).notices.planTaken = s.notices.planTaken ∧
    (s.enterFaulted c p).notices.reversal = s.notices.reversal ∧
    (s.enterFaulted c p).notices.stopped = s.notices.stopped ∧
    (s.enterFaulted c p).notices.unannounced = s.notices.unannounced ∧
    (s.enterFaulted c p).notices.detail = s.notices.detail := by
  simp only [State.enterFaulted] <;> (repeat' split) <;> simp

@[simp] theorem State.enterFaulted_control_frame (s : State) (c : FaultCause) (p : Word) :
    (s.enterFaulted c p).control.planOffset = s.control.planOffset ∧
    (s.enterFaulted c p).control.geometry = s.control.geometry ∧
    (s.enterFaulted c p).control.lastKind = s.control.lastKind ∧
    (s.enterFaulted c p).control.lastResult = s.control.lastResult ∧
    (s.enterFaulted c p).control.area = s.control.area ∧
    (s.enterFaulted c p).control.interruptEnable = s.control.interruptEnable := by
  simp only [State.enterFaulted] <;> (repeat' split) <;> simp

@[simp] theorem State.noteMark_sweep_frame (s : State) (n : BitVec 16) :
    (s.noteMark n).sweep.intake = s.sweep.intake ∧ (s.noteMark n).sweep.receiver = s.sweep.receiver ∧
    (s.noteMark n).sweep.bufferA = s.sweep.bufferA ∧ (s.noteMark n).sweep.bufferB = s.sweep.bufferB ∧
    (s.noteMark n).sweep.current = s.sweep.current ∧ (s.noteMark n).sweep.handover = s.sweep.handover ∧
    (s.noteMark n).sweep.latch = s.sweep.latch ∧ (s.noteMark n).sweep.runFaults = s.sweep.runFaults ∧
    (s.noteMark n).sweep.lastCommand = s.sweep.lastCommand := by
  simp only [State.noteMark] <;> (repeat' split) <;> simp

@[simp] theorem State.noteMark_cant_frame (s : State) (n : BitVec 16) :
    (s.noteMark n).cant.history = s.cant.history ∧ (s.noteMark n).cant.failures = s.cant.failures := by
  simp only [State.noteMark] <;> (repeat' split) <;> simp

@[simp] theorem State.handOver_sweep_frame (s : State) (r : Revolution) (t : Tag) (n : BitVec 16) (f : BitVec 8) :
    (s.handOver r t n f).sweep.intake = s.sweep.intake ∧ (s.handOver r t n f).sweep.receiver = s.sweep.receiver ∧
    (s.handOver r t n f).sweep.lastGood = s.sweep.lastGood ∧
    (s.handOver r t n f).sweep.markTimer = s.sweep.markTimer ∧ (s.handOver r t n f).sweep.latch = s.sweep.latch ∧
    (s.handOver r t n f).sweep.runFaults = s.sweep.runFaults ∧
    (s.handOver r t n f).sweep.lastCommand = s.sweep.lastCommand := by
  simp only [State.handOver] <;> (repeat' split) <;> simp

@[simp] theorem State.judgeRevolution_sweep_frame (s : State) (n : BitVec 16) (f : BitVec 8) :
    (s.judgeRevolution n f).sweep.intake = s.sweep.intake ∧
    (s.judgeRevolution n f).sweep.lastGood = s.sweep.lastGood ∧
    (s.judgeRevolution n f).sweep.markTimer = s.sweep.markTimer ∧
    (s.judgeRevolution n f).sweep.latch = s.sweep.latch ∧
    (s.judgeRevolution n f).sweep.runFaults = s.sweep.runFaults ∧
    (s.judgeRevolution n f).sweep.lastCommand = s.sweep.lastCommand := by
  simp only [State.judgeRevolution] <;> (repeat' split) <;> simp

@[simp] theorem State.judgeRevolution_accumulator_frame (s : State) (n : BitVec 16) (f : BitVec 8) :
    (s.judgeRevolution n f).accumulator.commit = s.accumulator.commit := by
  simp only [State.judgeRevolution] <;> (repeat' split) <;> simp

@[simp] theorem State.judgeRevolution_loader_frame (s : State) (n : BitVec 16) (f : BitVec 8) :
    (s.judgeRevolution n f).loader.calibration = s.loader.calibration := by
  simp only [State.judgeRevolution] <;> (repeat' split) <;> simp

@[simp] theorem State.judgeRevolution_chainage_frame (s : State) (n : BitVec 16) (f : BitVec 8) :
    (s.judgeRevolution n f).chainage.mode = s.chainage.mode ∧
    (s.judgeRevolution n f).chainage.chainage = s.chainage.chainage ∧
    (s.judgeRevolution n f).chainage.peak = s.chainage.peak ∧
    (s.judgeRevolution n f).chainage.tracker = s.chainage.tracker ∧
    (s.judgeRevolution n f).chainage.lineReference = s.chainage.lineReference ∧
    (s.judgeRevolution n f).chainage.marker = s.chainage.marker := by
  simp only [State.judgeRevolution] <;> (repeat' split) <;> simp

@[simp] theorem State.judgeRevolution_notices_frame (s : State) (n : BitVec 16) (f : BitVec 8) :
    (s.judgeRevolution n f).notices.fault = s.notices.fault ∧
    (s.judgeRevolution n f).notices.linkFault = s.notices.linkFault ∧
    (s.judgeRevolution n f).notices.alerts = s.notices.alerts ∧
    (s.judgeRevolution n f).notices.displaced = s.notices.displaced ∧
    (s.judgeRevolution n f).notices.markerMismatch = s.notices.markerMismatch ∧
    (s.judgeRevolution n f).notices.cantFault = s.notices.cantFault ∧
    (s.judgeRevolution n f).notices.reversal = s.notices.reversal ∧
    (s.judgeRevolution n f).notices.stopped = s.notices.stopped ∧
    (s.judgeRevolution n f).notices.unannounced = s.notices.unannounced ∧
    (s.judgeRevolution n f).notices.detail = s.notices.detail := by
  simp only [State.judgeRevolution] <;> (repeat' split) <;> simp

@[simp] theorem State.judgeRevolution_sheets_frame (s : State) (n : BitVec 16) (f : BitVec 8) :
    (s.judgeRevolution n f).sheets.sheetCount = s.sheets.sheetCount ∧
    (s.judgeRevolution n f).sheets.sheetSize = s.sheets.sheetSize ∧
    (s.judgeRevolution n f).sheets.sheetBase = s.sheets.sheetBase ∧
    (s.judgeRevolution n f).sheets.closedSheets = s.sheets.closedSheets ∧
    (s.judgeRevolution n f).sheets.stopMode = s.sheets.stopMode ∧
    (s.judgeRevolution n f).sheets.endWaiting = s.sheets.endWaiting ∧
    (s.judgeRevolution n f).sheets.endWritten = s.sheets.endWritten := by
  simp only [State.judgeRevolution] <;> (repeat' split) <;> simp

@[simp] theorem State.judgeRevolution_port_frame (s : State) (n : BitVec 16) (f : BitVec 8) :
    (s.judgeRevolution n f).port.grant = s.port.grant ∧ (s.judgeRevolution n f).port.access = s.port.access := by
  simp only [State.judgeRevolution] <;> (repeat' split) <;> simp

@[simp] theorem State.raiseInHand_accumulator_frame (s : State) (t : Option Tag) :
    (s.raiseInHand t).accumulator.openingCounter = s.accumulator.openingCounter ∧
    (s.raiseInHand t).accumulator.commit = s.accumulator.commit ∧
    (s.raiseInHand t).accumulator.evaluationOrder = s.accumulator.evaluationOrder := by
  simp only [State.raiseInHand] <;> (repeat' split) <;> simp

@[simp] theorem State.openRevolution_sweep_frame (s : State) (n : BitVec 16) (f : BitVec 8) :
    (s.openRevolution n f).sweep.intake = s.sweep.intake ∧
    (s.openRevolution n f).sweep.handover = s.sweep.handover ∧
    (s.openRevolution n f).sweep.lastGood = s.sweep.lastGood ∧
    (s.openRevolution n f).sweep.markTimer = s.sweep.markTimer ∧
    (s.openRevolution n f).sweep.latch = s.sweep.latch ∧
    (s.openRevolution n f).sweep.runFaults = s.sweep.runFaults ∧
    (s.openRevolution n f).sweep.lastCommand = s.sweep.lastCommand := by
  simp only [State.openRevolution] <;> (repeat' split) <;> simp

@[simp] theorem State.openRevolution_accumulator_frame (s : State) (n : BitVec 16) (f : BitVec 8) :
    (s.openRevolution n f).accumulator.openingCounter = s.accumulator.openingCounter ∧
    (s.openRevolution n f).accumulator.commit = s.accumulator.commit ∧
    (s.openRevolution n f).accumulator.evaluationOrder = s.accumulator.evaluationOrder := by
  simp only [State.openRevolution] <;> (repeat' split) <;> simp

@[simp] theorem State.firstLinkFault_sweep_frame (s : State) (c : LinkCause) :
    (s.firstLinkFault c).sweep.intake = s.sweep.intake ∧ (s.firstLinkFault c).sweep.handover = s.sweep.handover ∧
    (s.firstLinkFault c).sweep.lastGood = s.sweep.lastGood := by
  simp only [State.firstLinkFault] <;> (repeat' split) <;> simp

@[simp] theorem State.firstLinkFault_accumulator_frame (s : State) (c : LinkCause) :
    (s.firstLinkFault c).accumulator.commit = s.accumulator.commit := by
  simp only [State.firstLinkFault] <;> (repeat' split) <;> simp

@[simp] theorem State.firstLinkFault_loader_frame (s : State) (c : LinkCause) :
    (s.firstLinkFault c).loader.calibration = s.loader.calibration := by
  simp only [State.firstLinkFault] <;> (repeat' split) <;> simp

@[simp] theorem State.firstLinkFault_chainage_frame (s : State) (c : LinkCause) :
    (s.firstLinkFault c).chainage.mode = s.chainage.mode ∧
    (s.firstLinkFault c).chainage.chainage = s.chainage.chainage ∧
    (s.firstLinkFault c).chainage.peak = s.chainage.peak ∧
    (s.firstLinkFault c).chainage.tracker = s.chainage.tracker ∧
    (s.firstLinkFault c).chainage.lineReference = s.chainage.lineReference ∧
    (s.firstLinkFault c).chainage.marker = s.chainage.marker := by
  simp only [State.firstLinkFault] <;> (repeat' split) <;> simp

@[simp] theorem State.firstLinkFault_notices_frame (s : State) (c : LinkCause) :
    (s.firstLinkFault c).notices.fault = s.notices.fault ∧ (s.firstLinkFault c).notices.alerts = s.notices.alerts ∧
    (s.firstLinkFault c).notices.displaced = s.notices.displaced ∧
    (s.firstLinkFault c).notices.markerMismatch = s.notices.markerMismatch ∧
    (s.firstLinkFault c).notices.cantFault = s.notices.cantFault ∧
    (s.firstLinkFault c).notices.reversal = s.notices.reversal ∧
    (s.firstLinkFault c).notices.stopped = s.notices.stopped ∧
    (s.firstLinkFault c).notices.unannounced = s.notices.unannounced ∧
    (s.firstLinkFault c).notices.detail = s.notices.detail := by
  simp only [State.firstLinkFault] <;> (repeat' split) <;> simp

@[simp] theorem State.firstLinkFault_sheets_frame (s : State) (c : LinkCause) :
    (s.firstLinkFault c).sheets.sheetCount = s.sheets.sheetCount ∧
    (s.firstLinkFault c).sheets.sheetSize = s.sheets.sheetSize ∧
    (s.firstLinkFault c).sheets.sheetBase = s.sheets.sheetBase ∧
    (s.firstLinkFault c).sheets.closedSheets = s.sheets.closedSheets ∧
    (s.firstLinkFault c).sheets.stopMode = s.sheets.stopMode ∧
    (s.firstLinkFault c).sheets.endWaiting = s.sheets.endWaiting ∧
    (s.firstLinkFault c).sheets.endWritten = s.sheets.endWritten := by
  simp only [State.firstLinkFault] <;> (repeat' split) <;> simp

@[simp] theorem State.firstLinkFault_port_frame (s : State) (c : LinkCause) :
    (s.firstLinkFault c).port.grant = s.port.grant ∧ (s.firstLinkFault c).port.access = s.port.access := by
  simp only [State.firstLinkFault] <;> (repeat' split) <;> simp

@[simp] theorem State.failReading_cant_frame (s : State) :
    s.failReading.cant.history = s.cant.history := by
  simp only [State.failReading] <;> (repeat' split) <;> simp

@[simp] theorem State.failReading_notices_frame (s : State) :
    s.failReading.notices.fault = s.notices.fault ∧ s.failReading.notices.linkFault = s.notices.linkFault ∧
    s.failReading.notices.alerts = s.notices.alerts ∧ s.failReading.notices.displaced = s.notices.displaced ∧
    s.failReading.notices.starved = s.notices.starved ∧
    s.failReading.notices.markerMismatch = s.notices.markerMismatch ∧
    s.failReading.notices.setupFault = s.notices.setupFault ∧
    s.failReading.notices.planTaken = s.notices.planTaken ∧ s.failReading.notices.reversal = s.notices.reversal ∧
    s.failReading.notices.stopped = s.notices.stopped ∧ s.failReading.notices.unannounced = s.notices.unannounced ∧
    s.failReading.notices.detail = s.notices.detail := by
  simp only [State.failReading] <;> (repeat' split) <;> simp

@[simp] theorem State.flagOpenBank_accumulator_frame (s : State) (f : StationFlags → StationFlags) :
    (s.flagOpenBank f).accumulator.openingCounter = s.accumulator.openingCounter ∧
    (s.flagOpenBank f).accumulator.commit = s.accumulator.commit ∧
    (s.flagOpenBank f).accumulator.evaluationOrder = s.accumulator.evaluationOrder := by
  simp only [State.flagOpenBank] <;> (repeat' split) <;> simp

@[simp] theorem State.stretch_accumulator_frame (s : State) (i : BankId) (n : Int) :
    (s.stretch i n).accumulator.openingCounter = s.accumulator.openingCounter ∧
    (s.stretch i n).accumulator.commit = s.accumulator.commit ∧
    (s.stretch i n).accumulator.evaluationOrder = s.accumulator.evaluationOrder := by
  simp only [State.stretch] <;> (repeat' split) <;> simp

@[simp] theorem State.signalBoundary_accumulator_frame (s : State) (n : Int) :
    (s.signalBoundary n).accumulator.commit = s.accumulator.commit := by
  simp only [State.signalBoundary] <;> (repeat' split) <;> simp

@[simp] theorem State.signalBoundary_loader_frame (s : State) (n : Int) :
    (s.signalBoundary n).loader.calibration = s.loader.calibration := by
  simp only [State.signalBoundary] <;> (repeat' split) <;> simp

@[simp] theorem State.signalBoundary_chainage_frame (s : State) (n : Int) :
    (s.signalBoundary n).chainage.mode = s.chainage.mode ∧
    (s.signalBoundary n).chainage.chainage = s.chainage.chainage ∧
    (s.signalBoundary n).chainage.peak = s.chainage.peak ∧
    (s.signalBoundary n).chainage.tracker = s.chainage.tracker ∧
    (s.signalBoundary n).chainage.lineReference = s.chainage.lineReference ∧
    (s.signalBoundary n).chainage.marker = s.chainage.marker := by
  simp only [State.signalBoundary] <;> (repeat' split) <;> simp

@[simp] theorem State.signalBoundary_notices_frame (s : State) (n : Int) :
    (s.signalBoundary n).notices.fault = s.notices.fault ∧
    (s.signalBoundary n).notices.linkFault = s.notices.linkFault ∧
    (s.signalBoundary n).notices.alerts = s.notices.alerts ∧
    (s.signalBoundary n).notices.displaced = s.notices.displaced ∧
    (s.signalBoundary n).notices.markerMismatch = s.notices.markerMismatch ∧
    (s.signalBoundary n).notices.cantFault = s.notices.cantFault ∧
    (s.signalBoundary n).notices.reversal = s.notices.reversal ∧
    (s.signalBoundary n).notices.stopped = s.notices.stopped ∧
    (s.signalBoundary n).notices.unannounced = s.notices.unannounced ∧
    (s.signalBoundary n).notices.detail = s.notices.detail := by
  simp only [State.signalBoundary] <;> (repeat' split) <;> simp

@[simp] theorem State.signalBoundary_sheets_frame (s : State) (n : Int) :
    (s.signalBoundary n).sheets.sheetCount = s.sheets.sheetCount ∧
    (s.signalBoundary n).sheets.sheetSize = s.sheets.sheetSize ∧
    (s.signalBoundary n).sheets.sheetBase = s.sheets.sheetBase ∧
    (s.signalBoundary n).sheets.closedSheets = s.sheets.closedSheets ∧
    (s.signalBoundary n).sheets.stopMode = s.sheets.stopMode ∧
    (s.signalBoundary n).sheets.endWaiting = s.sheets.endWaiting ∧
    (s.signalBoundary n).sheets.endWritten = s.sheets.endWritten := by
  simp only [State.signalBoundary] <;> (repeat' split) <;> simp

@[simp] theorem State.signalBoundary_port_frame (s : State) (n : Int) :
    (s.signalBoundary n).port.grant = s.port.grant ∧ (s.signalBoundary n).port.access = s.port.access := by
  simp only [State.signalBoundary] <;> (repeat' split) <;> simp

@[simp] theorem State.testBoundary_accumulator_frame (s : State) :
    s.testBoundary.accumulator.commit = s.accumulator.commit := by
  simp only [State.testBoundary] <;> (repeat' split) <;> simp

@[simp] theorem State.testBoundary_loader_frame (s : State) :
    s.testBoundary.loader.calibration = s.loader.calibration := by
  simp only [State.testBoundary] <;> (repeat' split) <;> simp

@[simp] theorem State.testBoundary_chainage_frame (s : State) :
    s.testBoundary.chainage.mode = s.chainage.mode ∧ s.testBoundary.chainage.chainage = s.chainage.chainage ∧
    s.testBoundary.chainage.peak = s.chainage.peak ∧ s.testBoundary.chainage.tracker = s.chainage.tracker ∧
    s.testBoundary.chainage.lineReference = s.chainage.lineReference ∧
    s.testBoundary.chainage.marker = s.chainage.marker := by
  simp only [State.testBoundary] <;> (repeat' split) <;> simp

@[simp] theorem State.testBoundary_notices_frame (s : State) :
    s.testBoundary.notices.fault = s.notices.fault ∧ s.testBoundary.notices.linkFault = s.notices.linkFault ∧
    s.testBoundary.notices.alerts = s.notices.alerts ∧ s.testBoundary.notices.displaced = s.notices.displaced ∧
    s.testBoundary.notices.markerMismatch = s.notices.markerMismatch ∧
    s.testBoundary.notices.cantFault = s.notices.cantFault ∧ s.testBoundary.notices.reversal = s.notices.reversal ∧
    s.testBoundary.notices.stopped = s.notices.stopped ∧
    s.testBoundary.notices.unannounced = s.notices.unannounced ∧
    s.testBoundary.notices.detail = s.notices.detail := by
  simp only [State.testBoundary] <;> (repeat' split) <;> simp

@[simp] theorem State.testBoundary_sheets_frame (s : State) :
    s.testBoundary.sheets.sheetCount = s.sheets.sheetCount ∧ s.testBoundary.sheets.sheetSize = s.sheets.sheetSize ∧
    s.testBoundary.sheets.sheetBase = s.sheets.sheetBase ∧
    s.testBoundary.sheets.closedSheets = s.sheets.closedSheets ∧
    s.testBoundary.sheets.stopMode = s.sheets.stopMode ∧ s.testBoundary.sheets.endWaiting = s.sheets.endWaiting ∧
    s.testBoundary.sheets.endWritten = s.sheets.endWritten := by
  simp only [State.testBoundary] <;> (repeat' split) <;> simp

@[simp] theorem State.testBoundary_port_frame (s : State) :
    s.testBoundary.port.grant = s.port.grant ∧ s.testBoundary.port.access = s.port.access := by
  simp only [State.testBoundary] <;> (repeat' split) <;> simp

@[simp] theorem State.movePeak_chainage_frame (s : State) :
    s.movePeak.chainage.mode = s.chainage.mode ∧ s.movePeak.chainage.chainage = s.chainage.chainage ∧
    s.movePeak.chainage.tracker = s.chainage.tracker ∧
    s.movePeak.chainage.lineReference = s.chainage.lineReference ∧
    s.movePeak.chainage.openStation = s.chainage.openStation ∧ s.movePeak.chainage.marker = s.chainage.marker := by
  simp only [State.movePeak] <;> (repeat' split) <;> simp

@[simp] theorem State.abandonStation_accumulator_frame (s : State) :
    s.abandonStation.accumulator.openingCounter = s.accumulator.openingCounter ∧
    s.abandonStation.accumulator.commit = s.accumulator.commit := by
  simp only [State.abandonStation] <;> (repeat' split) <;> simp

@[simp] theorem State.abandonStation_loader_frame (s : State) :
    s.abandonStation.loader.calibration = s.loader.calibration := by
  simp only [State.abandonStation] <;> (repeat' split) <;> simp

@[simp] theorem State.abandonStation_sheets_frame (s : State) :
    s.abandonStation.sheets.sheetCount = s.sheets.sheetCount ∧
    s.abandonStation.sheets.sheetSize = s.sheets.sheetSize ∧
    s.abandonStation.sheets.sheetBase = s.sheets.sheetBase ∧
    s.abandonStation.sheets.closedSheets = s.sheets.closedSheets ∧
    s.abandonStation.sheets.stopMode = s.sheets.stopMode ∧
    s.abandonStation.sheets.endWaiting = s.sheets.endWaiting ∧
    s.abandonStation.sheets.endWritten = s.sheets.endWritten := by
  simp only [State.abandonStation] <;> (repeat' split) <;> simp

@[simp] theorem State.abandonStation_notices_frame (s : State) :
    s.abandonStation.notices.fault = s.notices.fault ∧ s.abandonStation.notices.linkFault = s.notices.linkFault ∧
    s.abandonStation.notices.alerts = s.notices.alerts ∧ s.abandonStation.notices.displaced = s.notices.displaced ∧
    s.abandonStation.notices.markerMismatch = s.notices.markerMismatch ∧
    s.abandonStation.notices.cantFault = s.notices.cantFault ∧
    s.abandonStation.notices.planTaken = s.notices.planTaken ∧
    s.abandonStation.notices.reversal = s.notices.reversal ∧ s.abandonStation.notices.stopped = s.notices.stopped ∧
    s.abandonStation.notices.unannounced = s.notices.unannounced ∧
    s.abandonStation.notices.detail = s.notices.detail := by
  simp only [State.abandonStation] <;> (repeat' split) <;> simp

@[simp] theorem State.abandonStation_port_frame (s : State) :
    s.abandonStation.port.grant = s.port.grant ∧ s.abandonStation.port.access = s.port.access := by
  simp only [State.abandonStation] <;> (repeat' split) <;> simp

@[simp] theorem State.reverse_sweep_frame (s : State) :
    s.reverse.sweep.intake = s.sweep.intake ∧ s.reverse.sweep.receiver = s.sweep.receiver ∧
    s.reverse.sweep.current = s.sweep.current ∧ s.reverse.sweep.lastGood = s.sweep.lastGood ∧
    s.reverse.sweep.markTimer = s.sweep.markTimer ∧ s.reverse.sweep.latch = s.sweep.latch ∧
    s.reverse.sweep.runFaults = s.sweep.runFaults ∧ s.reverse.sweep.lastCommand = s.sweep.lastCommand := by
  simp only [State.reverse] <;> (repeat' split) <;> simp

@[simp] theorem State.reverse_loader_frame (s : State) :
    s.reverse.loader.calibration = s.loader.calibration := by
  simp only [State.reverse] <;> (repeat' split) <;> simp

@[simp] theorem State.reverse_chainage_frame (s : State) :
    s.reverse.chainage.mode = s.chainage.mode ∧ s.reverse.chainage.chainage = s.chainage.chainage ∧
    s.reverse.chainage.peak = s.chainage.peak ∧ s.reverse.chainage.lineReference = s.chainage.lineReference := by
  simp only [State.reverse] <;> (repeat' split) <;> simp

@[simp] theorem State.reverse_notices_frame (s : State) :
    s.reverse.notices.fault = s.notices.fault ∧ s.reverse.notices.linkFault = s.notices.linkFault ∧
    s.reverse.notices.alerts = s.notices.alerts ∧ s.reverse.notices.displaced = s.notices.displaced ∧
    s.reverse.notices.markerMismatch = s.notices.markerMismatch ∧
    s.reverse.notices.cantFault = s.notices.cantFault ∧ s.reverse.notices.stopped = s.notices.stopped ∧
    s.reverse.notices.unannounced = s.notices.unannounced ∧ s.reverse.notices.detail = s.notices.detail := by
  simp only [State.reverse] <;> (repeat' split) <;> simp

@[simp] theorem State.reverse_sheets_frame (s : State) :
    s.reverse.sheets.sheetCount = s.sheets.sheetCount ∧ s.reverse.sheets.sheetSize = s.sheets.sheetSize ∧
    s.reverse.sheets.sheetBase = s.sheets.sheetBase ∧ s.reverse.sheets.closedSheets = s.sheets.closedSheets ∧
    s.reverse.sheets.stopMode = s.sheets.stopMode ∧ s.reverse.sheets.endWaiting = s.sheets.endWaiting ∧
    s.reverse.sheets.endWritten = s.sheets.endWritten := by
  simp only [State.reverse] <;> (repeat' split) <;> simp

@[simp] theorem State.reverse_port_frame (s : State) :
    s.reverse.port.grant = s.port.grant ∧ s.reverse.port.access = s.port.access := by
  simp only [State.reverse] <;> (repeat' split) <;> simp

@[simp] theorem State.testReversal_sweep_frame (s : State) :
    s.testReversal.sweep.intake = s.sweep.intake ∧ s.testReversal.sweep.receiver = s.sweep.receiver ∧
    s.testReversal.sweep.current = s.sweep.current ∧ s.testReversal.sweep.lastGood = s.sweep.lastGood ∧
    s.testReversal.sweep.markTimer = s.sweep.markTimer ∧ s.testReversal.sweep.latch = s.sweep.latch ∧
    s.testReversal.sweep.runFaults = s.sweep.runFaults ∧
    s.testReversal.sweep.lastCommand = s.sweep.lastCommand := by
  simp only [State.testReversal] <;> (repeat' split) <;> simp

@[simp] theorem State.testReversal_loader_frame (s : State) :
    s.testReversal.loader.calibration = s.loader.calibration := by
  simp only [State.testReversal] <;> (repeat' split) <;> simp

@[simp] theorem State.testReversal_chainage_frame (s : State) :
    s.testReversal.chainage.mode = s.chainage.mode ∧ s.testReversal.chainage.chainage = s.chainage.chainage ∧
    s.testReversal.chainage.peak = s.chainage.peak ∧
    s.testReversal.chainage.lineReference = s.chainage.lineReference := by
  simp only [State.testReversal] <;> (repeat' split) <;> simp

@[simp] theorem State.testReversal_notices_frame (s : State) :
    s.testReversal.notices.fault = s.notices.fault ∧ s.testReversal.notices.linkFault = s.notices.linkFault ∧
    s.testReversal.notices.alerts = s.notices.alerts ∧ s.testReversal.notices.displaced = s.notices.displaced ∧
    s.testReversal.notices.markerMismatch = s.notices.markerMismatch ∧
    s.testReversal.notices.cantFault = s.notices.cantFault ∧ s.testReversal.notices.stopped = s.notices.stopped ∧
    s.testReversal.notices.unannounced = s.notices.unannounced ∧
    s.testReversal.notices.detail = s.notices.detail := by
  simp only [State.testReversal] <;> (repeat' split) <;> simp

@[simp] theorem State.testReversal_sheets_frame (s : State) :
    s.testReversal.sheets.sheetCount = s.sheets.sheetCount ∧ s.testReversal.sheets.sheetSize = s.sheets.sheetSize ∧
    s.testReversal.sheets.sheetBase = s.sheets.sheetBase ∧
    s.testReversal.sheets.closedSheets = s.sheets.closedSheets ∧
    s.testReversal.sheets.stopMode = s.sheets.stopMode ∧ s.testReversal.sheets.endWaiting = s.sheets.endWaiting ∧
    s.testReversal.sheets.endWritten = s.sheets.endWritten := by
  simp only [State.testReversal] <;> (repeat' split) <;> simp

@[simp] theorem State.testReversal_port_frame (s : State) :
    s.testReversal.port.grant = s.port.grant ∧ s.testReversal.port.access = s.port.access := by
  simp only [State.testReversal] <;> (repeat' split) <;> simp

@[simp] theorem State.resume_sweep_frame (s : State) :
    s.resume.sweep.intake = s.sweep.intake ∧ s.resume.sweep.receiver = s.sweep.receiver ∧
    s.resume.sweep.current = s.sweep.current ∧ s.resume.sweep.lastGood = s.sweep.lastGood ∧
    s.resume.sweep.markTimer = s.sweep.markTimer ∧ s.resume.sweep.latch = s.sweep.latch ∧
    s.resume.sweep.runFaults = s.sweep.runFaults ∧ s.resume.sweep.lastCommand = s.sweep.lastCommand := by
  simp only [State.resume] <;> (repeat' split) <;> simp

@[simp] theorem State.resume_loader_frame (s : State) :
    s.resume.loader.calibration = s.loader.calibration := by
  simp only [State.resume] <;> (repeat' split) <;> simp

@[simp] theorem State.resume_chainage_frame (s : State) :
    s.resume.chainage.mode = s.chainage.mode ∧ s.resume.chainage.chainage = s.chainage.chainage ∧
    s.resume.chainage.lineReference = s.chainage.lineReference ∧ s.resume.chainage.marker = s.chainage.marker := by
  simp only [State.resume] <;> (repeat' split) <;> simp

@[simp] theorem State.resume_notices_frame (s : State) :
    s.resume.notices.fault = s.notices.fault ∧ s.resume.notices.linkFault = s.notices.linkFault ∧
    s.resume.notices.alerts = s.notices.alerts ∧ s.resume.notices.displaced = s.notices.displaced ∧
    s.resume.notices.markerMismatch = s.notices.markerMismatch ∧ s.resume.notices.cantFault = s.notices.cantFault ∧
    s.resume.notices.reversal = s.notices.reversal ∧ s.resume.notices.stopped = s.notices.stopped ∧
    s.resume.notices.unannounced = s.notices.unannounced ∧ s.resume.notices.detail = s.notices.detail := by
  simp only [State.resume] <;> (repeat' split) <;> simp

@[simp] theorem State.resume_sheets_frame (s : State) :
    s.resume.sheets.sheetCount = s.sheets.sheetCount ∧ s.resume.sheets.sheetSize = s.sheets.sheetSize ∧
    s.resume.sheets.sheetBase = s.sheets.sheetBase ∧ s.resume.sheets.closedSheets = s.sheets.closedSheets ∧
    s.resume.sheets.stopMode = s.sheets.stopMode ∧ s.resume.sheets.endWaiting = s.sheets.endWaiting ∧
    s.resume.sheets.endWritten = s.sheets.endWritten := by
  simp only [State.resume] <;> (repeat' split) <;> simp

@[simp] theorem State.resume_port_frame (s : State) :
    s.resume.port.grant = s.port.grant ∧ s.resume.port.access = s.port.access := by
  simp only [State.resume] <;> (repeat' split) <;> simp

@[simp] theorem State.testResume_sweep_frame (s : State) :
    s.testResume.sweep.intake = s.sweep.intake ∧ s.testResume.sweep.receiver = s.sweep.receiver ∧
    s.testResume.sweep.current = s.sweep.current ∧ s.testResume.sweep.lastGood = s.sweep.lastGood ∧
    s.testResume.sweep.markTimer = s.sweep.markTimer ∧ s.testResume.sweep.latch = s.sweep.latch ∧
    s.testResume.sweep.runFaults = s.sweep.runFaults ∧ s.testResume.sweep.lastCommand = s.sweep.lastCommand := by
  simp only [State.testResume] <;> (repeat' split) <;> simp

@[simp] theorem State.testResume_loader_frame (s : State) :
    s.testResume.loader.calibration = s.loader.calibration := by
  simp only [State.testResume] <;> (repeat' split) <;> simp

@[simp] theorem State.testResume_chainage_frame (s : State) :
    s.testResume.chainage.mode = s.chainage.mode ∧ s.testResume.chainage.chainage = s.chainage.chainage ∧
    s.testResume.chainage.lineReference = s.chainage.lineReference ∧
    s.testResume.chainage.marker = s.chainage.marker := by
  simp only [State.testResume] <;> (repeat' split) <;> simp

@[simp] theorem State.testResume_notices_frame (s : State) :
    s.testResume.notices.fault = s.notices.fault ∧ s.testResume.notices.linkFault = s.notices.linkFault ∧
    s.testResume.notices.alerts = s.notices.alerts ∧ s.testResume.notices.displaced = s.notices.displaced ∧
    s.testResume.notices.markerMismatch = s.notices.markerMismatch ∧
    s.testResume.notices.cantFault = s.notices.cantFault ∧ s.testResume.notices.reversal = s.notices.reversal ∧
    s.testResume.notices.stopped = s.notices.stopped ∧ s.testResume.notices.unannounced = s.notices.unannounced ∧
    s.testResume.notices.detail = s.notices.detail := by
  simp only [State.testResume] <;> (repeat' split) <;> simp

@[simp] theorem State.testResume_sheets_frame (s : State) :
    s.testResume.sheets.sheetCount = s.sheets.sheetCount ∧ s.testResume.sheets.sheetSize = s.sheets.sheetSize ∧
    s.testResume.sheets.sheetBase = s.sheets.sheetBase ∧ s.testResume.sheets.closedSheets = s.sheets.closedSheets ∧
    s.testResume.sheets.stopMode = s.sheets.stopMode ∧ s.testResume.sheets.endWaiting = s.sheets.endWaiting ∧
    s.testResume.sheets.endWritten = s.sheets.endWritten := by
  simp only [State.testResume] <;> (repeat' split) <;> simp

@[simp] theorem State.testResume_port_frame (s : State) :
    s.testResume.port.grant = s.port.grant ∧ s.testResume.port.access = s.port.access := by
  simp only [State.testResume] <;> (repeat' split) <;> simp

@[simp] theorem State.surveyTests_sweep_frame (s : State) :
    s.surveyTests.sweep.intake = s.sweep.intake ∧ s.surveyTests.sweep.receiver = s.sweep.receiver ∧
    s.surveyTests.sweep.current = s.sweep.current ∧ s.surveyTests.sweep.lastGood = s.sweep.lastGood ∧
    s.surveyTests.sweep.markTimer = s.sweep.markTimer ∧ s.surveyTests.sweep.latch = s.sweep.latch ∧
    s.surveyTests.sweep.runFaults = s.sweep.runFaults ∧ s.surveyTests.sweep.lastCommand = s.sweep.lastCommand := by
  simp only [State.surveyTests] <;> (repeat' split) <;> simp

@[simp] theorem State.surveyTests_loader_frame (s : State) :
    s.surveyTests.loader.calibration = s.loader.calibration := by
  simp only [State.surveyTests] <;> (repeat' split) <;> simp

@[simp] theorem State.surveyTests_chainage_frame (s : State) :
    s.surveyTests.chainage.mode = s.chainage.mode ∧ s.surveyTests.chainage.chainage = s.chainage.chainage ∧
    s.surveyTests.chainage.lineReference = s.chainage.lineReference := by
  simp only [State.surveyTests] <;> (repeat' split) <;> simp

@[simp] theorem State.surveyTests_notices_frame (s : State) :
    s.surveyTests.notices.fault = s.notices.fault ∧ s.surveyTests.notices.linkFault = s.notices.linkFault ∧
    s.surveyTests.notices.alerts = s.notices.alerts ∧ s.surveyTests.notices.displaced = s.notices.displaced ∧
    s.surveyTests.notices.markerMismatch = s.notices.markerMismatch ∧
    s.surveyTests.notices.cantFault = s.notices.cantFault ∧ s.surveyTests.notices.stopped = s.notices.stopped ∧
    s.surveyTests.notices.unannounced = s.notices.unannounced ∧
    s.surveyTests.notices.detail = s.notices.detail := by
  simp only [State.surveyTests] <;> (repeat' split) <;> simp

@[simp] theorem State.surveyTests_sheets_frame (s : State) :
    s.surveyTests.sheets.sheetCount = s.sheets.sheetCount ∧ s.surveyTests.sheets.sheetSize = s.sheets.sheetSize ∧
    s.surveyTests.sheets.sheetBase = s.sheets.sheetBase ∧
    s.surveyTests.sheets.closedSheets = s.sheets.closedSheets ∧ s.surveyTests.sheets.stopMode = s.sheets.stopMode ∧
    s.surveyTests.sheets.endWaiting = s.sheets.endWaiting ∧
    s.surveyTests.sheets.endWritten = s.sheets.endWritten := by
  simp only [State.surveyTests] <;> (repeat' split) <;> simp

@[simp] theorem State.surveyTests_port_frame (s : State) :
    s.surveyTests.port.grant = s.port.grant ∧ s.surveyTests.port.access = s.port.access := by
  simp only [State.surveyTests] <;> (repeat' split) <;> simp

@[simp] theorem State.countStep_chainage_frame (s : State) (k : StepKind) :
    (s.countStep k).chainage.mode = s.chainage.mode ∧ (s.countStep k).chainage.peak = s.chainage.peak ∧
    (s.countStep k).chainage.tracker = s.chainage.tracker ∧
    (s.countStep k).chainage.lineReference = s.chainage.lineReference ∧
    (s.countStep k).chainage.openStation = s.chainage.openStation ∧
    (s.countStep k).chainage.marker = s.chainage.marker := by
  simp only [State.countStep] <;> (repeat' split) <;> simp

@[simp] theorem State.observeLines_chainage_frame (s : State) (l : Levels) :
    (s.observeLines l).chainage.mode = s.chainage.mode ∧
    (s.observeLines l).chainage.chainage = s.chainage.chainage ∧
    (s.observeLines l).chainage.peak = s.chainage.peak ∧ (s.observeLines l).chainage.tracker = s.chainage.tracker ∧
    (s.observeLines l).chainage.openStation = s.chainage.openStation ∧
    (s.observeLines l).chainage.marker = s.chainage.marker := by
  simp only [State.observeLines] <;> (repeat' split) <;> simp

@[simp] theorem State.validStep_sweep_frame (s : State) (k : StepKind) :
    (s.validStep k).sweep.intake = s.sweep.intake ∧ (s.validStep k).sweep.receiver = s.sweep.receiver ∧
    (s.validStep k).sweep.current = s.sweep.current ∧ (s.validStep k).sweep.lastGood = s.sweep.lastGood ∧
    (s.validStep k).sweep.markTimer = s.sweep.markTimer ∧ (s.validStep k).sweep.latch = s.sweep.latch ∧
    (s.validStep k).sweep.runFaults = s.sweep.runFaults ∧
    (s.validStep k).sweep.lastCommand = s.sweep.lastCommand := by
  simp only [State.validStep] <;> (repeat' split) <;> simp

@[simp] theorem State.validStep_control_frame (s : State) (k : StepKind) :
    (s.validStep k).control.survey = s.control.survey ∧ (s.validStep k).control.startPhase = s.control.startPhase ∧
    (s.validStep k).control.stopMode = s.control.stopMode ∧
    (s.validStep k).control.planOffset = s.control.planOffset ∧
    (s.validStep k).control.geometry = s.control.geometry ∧ (s.validStep k).control.lastKind = s.control.lastKind ∧
    (s.validStep k).control.lastResult = s.control.lastResult ∧ (s.validStep k).control.area = s.control.area ∧
    (s.validStep k).control.interruptEnable = s.control.interruptEnable := by
  simp only [State.validStep] <;> (repeat' split) <;> simp

@[simp] theorem State.validStep_loader_frame (s : State) (k : StepKind) :
    (s.validStep k).loader.calibration = s.loader.calibration := by
  simp only [State.validStep] <;> (repeat' split) <;> simp

@[simp] theorem State.validStep_chainage_frame (s : State) (k : StepKind) :
    (s.validStep k).chainage.mode = s.chainage.mode ∧
    (s.validStep k).chainage.lineReference = s.chainage.lineReference := by
  simp only [State.validStep] <;> (repeat' split) <;> simp

@[simp] theorem State.validStep_notices_frame (s : State) (k : StepKind) :
    (s.validStep k).notices.fault = s.notices.fault ∧ (s.validStep k).notices.linkFault = s.notices.linkFault ∧
    (s.validStep k).notices.alerts = s.notices.alerts ∧ (s.validStep k).notices.displaced = s.notices.displaced ∧
    (s.validStep k).notices.markerMismatch = s.notices.markerMismatch ∧
    (s.validStep k).notices.cantFault = s.notices.cantFault ∧ (s.validStep k).notices.stopped = s.notices.stopped ∧
    (s.validStep k).notices.unannounced = s.notices.unannounced ∧
    (s.validStep k).notices.detail = s.notices.detail := by
  simp only [State.validStep] <;> (repeat' split) <;> simp

@[simp] theorem State.validStep_sheets_frame (s : State) (k : StepKind) :
    (s.validStep k).sheets.sheetCount = s.sheets.sheetCount ∧
    (s.validStep k).sheets.sheetSize = s.sheets.sheetSize ∧ (s.validStep k).sheets.sheetBase = s.sheets.sheetBase ∧
    (s.validStep k).sheets.closedSheets = s.sheets.closedSheets ∧
    (s.validStep k).sheets.stopMode = s.sheets.stopMode ∧
    (s.validStep k).sheets.endWritten = s.sheets.endWritten := by
  simp only [State.validStep] <;> (repeat' split) <;> simp

@[simp] theorem State.validStep_port_frame (s : State) (k : StepKind) :
    (s.validStep k).port.access = s.port.access := by
  simp only [State.validStep] <;> (repeat' split) <;> simp

@[simp] theorem State.illegalStep_accumulator_frame (s : State) :
    s.illegalStep.accumulator.openingCounter = s.accumulator.openingCounter ∧
    s.illegalStep.accumulator.commit = s.accumulator.commit ∧
    s.illegalStep.accumulator.evaluationOrder = s.accumulator.evaluationOrder := by
  simp only [State.illegalStep] <;> (repeat' split) <;> simp

@[simp] theorem State.snap_accumulator_frame (s : State) (m : MarkerLatch) (x : Int) :
    (s.snap m x).accumulator.commit = s.accumulator.commit := by
  simp only [State.snap] <;> (repeat' split) <;> simp

@[simp] theorem State.snap_loader_frame (s : State) (m : MarkerLatch) (x : Int) :
    (s.snap m x).loader.calibration = s.loader.calibration := by
  simp only [State.snap] <;> (repeat' split) <;> simp

@[simp] theorem State.snap_chainage_frame (s : State) (m : MarkerLatch) (x : Int) :
    (s.snap m x).chainage.mode = s.chainage.mode ∧ (s.snap m x).chainage.tracker = s.chainage.tracker ∧
    (s.snap m x).chainage.lineReference = s.chainage.lineReference ∧
    (s.snap m x).chainage.marker = s.chainage.marker := by
  simp only [State.snap] <;> (repeat' split) <;> simp

@[simp] theorem State.snap_notices_frame (s : State) (m : MarkerLatch) (x : Int) :
    (s.snap m x).notices.fault = s.notices.fault ∧ (s.snap m x).notices.linkFault = s.notices.linkFault ∧
    (s.snap m x).notices.alerts = s.notices.alerts ∧ (s.snap m x).notices.displaced = s.notices.displaced ∧
    (s.snap m x).notices.markerMismatch = s.notices.markerMismatch ∧
    (s.snap m x).notices.cantFault = s.notices.cantFault ∧ (s.snap m x).notices.reversal = s.notices.reversal ∧
    (s.snap m x).notices.stopped = s.notices.stopped ∧ (s.snap m x).notices.unannounced = s.notices.unannounced ∧
    (s.snap m x).notices.detail = s.notices.detail := by
  simp only [State.snap] <;> (repeat' split) <;> simp

@[simp] theorem State.snap_sheets_frame (s : State) (m : MarkerLatch) (x : Int) :
    (s.snap m x).sheets.sheetCount = s.sheets.sheetCount ∧ (s.snap m x).sheets.sheetSize = s.sheets.sheetSize ∧
    (s.snap m x).sheets.sheetBase = s.sheets.sheetBase ∧ (s.snap m x).sheets.closedSheets = s.sheets.closedSheets ∧
    (s.snap m x).sheets.stopMode = s.sheets.stopMode ∧ (s.snap m x).sheets.endWaiting = s.sheets.endWaiting ∧
    (s.snap m x).sheets.endWritten = s.sheets.endWritten := by
  simp only [State.snap] <;> (repeat' split) <;> simp

@[simp] theorem State.snap_port_frame (s : State) (m : MarkerLatch) (x : Int) :
    (s.snap m x).port.grant = s.port.grant ∧ (s.snap m x).port.access = s.port.access := by
  simp only [State.snap] <;> (repeat' split) <;> simp

@[simp] theorem State.mismatch_sheets_frame (s : State) (m : MarkerLatch) (x : Int) :
    (s.mismatch m x).sheets.sheetCount = s.sheets.sheetCount ∧
    (s.mismatch m x).sheets.sheetSize = s.sheets.sheetSize ∧
    (s.mismatch m x).sheets.sheetBase = s.sheets.sheetBase ∧
    (s.mismatch m x).sheets.closedSheets = s.sheets.closedSheets ∧
    (s.mismatch m x).sheets.stopMode = s.sheets.stopMode ∧
    (s.mismatch m x).sheets.endWaiting = s.sheets.endWaiting ∧
    (s.mismatch m x).sheets.endWritten = s.sheets.endWritten := by
  simp only [State.mismatch] <;> (repeat' split) <;> simp

@[simp] theorem State.mismatch_notices_frame (s : State) (m : MarkerLatch) (x : Int) :
    (s.mismatch m x).notices.fault = s.notices.fault ∧ (s.mismatch m x).notices.linkFault = s.notices.linkFault ∧
    (s.mismatch m x).notices.alerts = s.notices.alerts ∧ (s.mismatch m x).notices.displaced = s.notices.displaced ∧
    (s.mismatch m x).notices.cantFault = s.notices.cantFault ∧
    (s.mismatch m x).notices.setupFault = s.notices.setupFault ∧
    (s.mismatch m x).notices.planTaken = s.notices.planTaken ∧
    (s.mismatch m x).notices.reversal = s.notices.reversal ∧ (s.mismatch m x).notices.stopped = s.notices.stopped ∧
    (s.mismatch m x).notices.unannounced = s.notices.unannounced ∧
    (s.mismatch m x).notices.detail = s.notices.detail := by
  simp only [State.mismatch] <;> (repeat' split) <;> simp

@[simp] theorem State.mismatch_port_frame (s : State) (m : MarkerLatch) (x : Int) :
    (s.mismatch m x).port.grant = s.port.grant ∧ (s.mismatch m x).port.access = s.port.access := by
  simp only [State.mismatch] <;> (repeat' split) <;> simp

@[simp] theorem State.takeMarker_accumulator_frame (s : State) (m : MarkerLatch) :
    (s.takeMarker m).accumulator.commit = s.accumulator.commit := by
  simp only [State.takeMarker] <;> (repeat' split) <;> simp

@[simp] theorem State.takeMarker_loader_frame (s : State) (m : MarkerLatch) :
    (s.takeMarker m).loader.calibration = s.loader.calibration := by
  simp only [State.takeMarker] <;> (repeat' split) <;> simp

@[simp] theorem State.takeMarker_chainage_frame (s : State) (m : MarkerLatch) :
    (s.takeMarker m).chainage.mode = s.chainage.mode ∧ (s.takeMarker m).chainage.tracker = s.chainage.tracker ∧
    (s.takeMarker m).chainage.lineReference = s.chainage.lineReference ∧
    (s.takeMarker m).chainage.marker = s.chainage.marker := by
  simp only [State.takeMarker] <;> (repeat' split) <;> simp

@[simp] theorem State.takeMarker_notices_frame (s : State) (m : MarkerLatch) :
    (s.takeMarker m).notices.fault = s.notices.fault ∧ (s.takeMarker m).notices.linkFault = s.notices.linkFault ∧
    (s.takeMarker m).notices.alerts = s.notices.alerts ∧ (s.takeMarker m).notices.displaced = s.notices.displaced ∧
    (s.takeMarker m).notices.cantFault = s.notices.cantFault ∧
    (s.takeMarker m).notices.reversal = s.notices.reversal ∧ (s.takeMarker m).notices.stopped = s.notices.stopped ∧
    (s.takeMarker m).notices.unannounced = s.notices.unannounced ∧
    (s.takeMarker m).notices.detail = s.notices.detail := by
  simp only [State.takeMarker] <;> (repeat' split) <;> simp

@[simp] theorem State.takeMarker_sheets_frame (s : State) (m : MarkerLatch) :
    (s.takeMarker m).sheets.sheetCount = s.sheets.sheetCount ∧
    (s.takeMarker m).sheets.sheetSize = s.sheets.sheetSize ∧
    (s.takeMarker m).sheets.sheetBase = s.sheets.sheetBase ∧
    (s.takeMarker m).sheets.closedSheets = s.sheets.closedSheets ∧
    (s.takeMarker m).sheets.stopMode = s.sheets.stopMode ∧
    (s.takeMarker m).sheets.endWaiting = s.sheets.endWaiting ∧
    (s.takeMarker m).sheets.endWritten = s.sheets.endWritten := by
  simp only [State.takeMarker] <;> (repeat' split) <;> simp

@[simp] theorem State.takeMarker_port_frame (s : State) (m : MarkerLatch) :
    (s.takeMarker m).port.grant = s.port.grant ∧ (s.takeMarker m).port.access = s.port.access := by
  simp only [State.takeMarker] <;> (repeat' split) <;> simp

@[simp] theorem State.endCommit_sweep_frame (s : State) (k : Commit) :
    (s.endCommit k).sweep.intake = s.sweep.intake ∧ (s.endCommit k).sweep.receiver = s.sweep.receiver ∧
    (s.endCommit k).sweep.current = s.sweep.current ∧ (s.endCommit k).sweep.lastGood = s.sweep.lastGood ∧
    (s.endCommit k).sweep.markTimer = s.sweep.markTimer ∧ (s.endCommit k).sweep.latch = s.sweep.latch ∧
    (s.endCommit k).sweep.runFaults = s.sweep.runFaults ∧
    (s.endCommit k).sweep.lastCommand = s.sweep.lastCommand := by
  simp only [State.endCommit] <;> (repeat' split) <;> simp

@[simp] theorem State.endCommit_accumulator_frame (s : State) (k : Commit) :
    (s.endCommit k).accumulator.openingCounter = s.accumulator.openingCounter ∧
    (s.endCommit k).accumulator.evaluationOrder = s.accumulator.evaluationOrder := by
  simp only [State.endCommit] <;> (repeat' split) <;> simp

@[simp] theorem State.raiseAlert_notices_frame (s : State) (n : Int) (m : ClearanceSummary) (d : Nat × Option Int) :
    (s.raiseAlert n m d).notices.fault = s.notices.fault ∧
    (s.raiseAlert n m d).notices.linkFault = s.notices.linkFault ∧
    (s.raiseAlert n m d).notices.starved = s.notices.starved ∧
    (s.raiseAlert n m d).notices.markerMismatch = s.notices.markerMismatch ∧
    (s.raiseAlert n m d).notices.cantFault = s.notices.cantFault ∧
    (s.raiseAlert n m d).notices.setupFault = s.notices.setupFault ∧
    (s.raiseAlert n m d).notices.planTaken = s.notices.planTaken ∧
    (s.raiseAlert n m d).notices.reversal = s.notices.reversal ∧
    (s.raiseAlert n m d).notices.stopped = s.notices.stopped ∧
    (s.raiseAlert n m d).notices.unannounced = s.notices.unannounced ∧
    (s.raiseAlert n m d).notices.detail = s.notices.detail := by
  simp only [State.raiseAlert] <;> (repeat' split) <;> simp

@[simp] theorem State.comparatorIdle_comparator_frame (s : State) :
    s.comparatorIdle.comparator.baselineUse = s.comparator.baselineUse ∧
    s.comparatorIdle.comparator.deformLimit = s.comparator.deformLimit ∧
    s.comparatorIdle.comparator.meanFloor = s.comparator.meanFloor ∧
    s.comparatorIdle.comparator.mode = s.comparator.mode ∧
    s.comparatorIdle.comparator.descriptor = s.comparator.descriptor ∧
    s.comparatorIdle.comparator.condition = s.comparator.condition := by
  simp only [State.comparatorIdle] <;> (repeat' split) <;> simp

@[simp] theorem State.release_comparator_frame (s : State) (i : BankId) (r : RailHandover) :
    (s.release i r).comparator.baselineUse = s.comparator.baselineUse ∧
    (s.release i r).comparator.deformLimit = s.comparator.deformLimit ∧
    (s.release i r).comparator.meanFloor = s.comparator.meanFloor ∧
    (s.release i r).comparator.mode = s.comparator.mode ∧
    (s.release i r).comparator.descriptor = s.comparator.descriptor ∧
    (s.release i r).comparator.condition = s.comparator.condition := by
  simp only [State.release] <;> (repeat' split) <;> simp

@[simp] theorem State.release_accumulator_frame (s : State) (i : BankId) (r : RailHandover) :
    (s.release i r).accumulator.commit = s.accumulator.commit := by
  simp only [State.release] <;> (repeat' split) <;> simp

@[simp] theorem State.release_loader_frame (s : State) (i : BankId) (r : RailHandover) :
    (s.release i r).loader.calibration = s.loader.calibration := by
  simp only [State.release] <;> (repeat' split) <;> simp

@[simp] theorem State.release_chainage_frame (s : State) (i : BankId) (r : RailHandover) :
    (s.release i r).chainage.mode = s.chainage.mode ∧ (s.release i r).chainage.chainage = s.chainage.chainage ∧
    (s.release i r).chainage.peak = s.chainage.peak ∧ (s.release i r).chainage.tracker = s.chainage.tracker ∧
    (s.release i r).chainage.lineReference = s.chainage.lineReference ∧
    (s.release i r).chainage.marker = s.chainage.marker := by
  simp only [State.release] <;> (repeat' split) <;> simp

@[simp] theorem State.release_notices_frame (s : State) (i : BankId) (r : RailHandover) :
    (s.release i r).notices.fault = s.notices.fault ∧ (s.release i r).notices.linkFault = s.notices.linkFault ∧
    (s.release i r).notices.markerMismatch = s.notices.markerMismatch ∧
    (s.release i r).notices.cantFault = s.notices.cantFault ∧
    (s.release i r).notices.reversal = s.notices.reversal ∧ (s.release i r).notices.stopped = s.notices.stopped ∧
    (s.release i r).notices.unannounced = s.notices.unannounced ∧
    (s.release i r).notices.detail = s.notices.detail := by
  simp only [State.release] <;> (repeat' split) <;> simp

@[simp] theorem State.release_sheets_frame (s : State) (i : BankId) (r : RailHandover) :
    (s.release i r).sheets.sheetCount = s.sheets.sheetCount ∧
    (s.release i r).sheets.sheetSize = s.sheets.sheetSize ∧ (s.release i r).sheets.sheetBase = s.sheets.sheetBase ∧
    (s.release i r).sheets.closedSheets = s.sheets.closedSheets ∧
    (s.release i r).sheets.stopMode = s.sheets.stopMode ∧ (s.release i r).sheets.endWaiting = s.sheets.endWaiting ∧
    (s.release i r).sheets.endWritten = s.sheets.endWritten := by
  simp only [State.release] <;> (repeat' split) <;> simp

@[simp] theorem State.release_port_frame (s : State) (i : BankId) (r : RailHandover) :
    (s.release i r).port.grant = s.port.grant ∧ (s.release i r).port.access = s.port.access := by
  simp only [State.release] <;> (repeat' split) <;> simp

@[simp] theorem State.decideBaseline_accumulator_frame (s : State) (i : BankId) :
    (s.decideBaseline i).accumulator.openingCounter = s.accumulator.openingCounter ∧
    (s.decideBaseline i).accumulator.commit = s.accumulator.commit ∧
    (s.decideBaseline i).accumulator.evaluationOrder = s.accumulator.evaluationOrder := by
  simp only [State.decideBaseline] <;> (repeat' split) <;> simp

@[simp] theorem State.decideBaseline_comparator_frame (s : State) (i : BankId) :
    (s.decideBaseline i).comparator.bank = s.comparator.bank ∧
    (s.decideBaseline i).comparator.rail = s.comparator.rail ∧
    (s.decideBaseline i).comparator.baselineUse = s.comparator.baselineUse ∧
    (s.decideBaseline i).comparator.deformLimit = s.comparator.deformLimit ∧
    (s.decideBaseline i).comparator.meanFloor = s.comparator.meanFloor ∧
    (s.decideBaseline i).comparator.mode = s.comparator.mode ∧
    (s.decideBaseline i).comparator.descriptor = s.comparator.descriptor ∧
    (s.decideBaseline i).comparator.record = s.comparator.record ∧
    (s.decideBaseline i).comparator.nextSector = s.comparator.nextSector ∧
    (s.decideBaseline i).comparator.results = s.comparator.results ∧
    (s.decideBaseline i).comparator.deformCount = s.comparator.deformCount ∧
    (s.decideBaseline i).comparator.maxDeviation = s.comparator.maxDeviation := by
  simp only [State.decideBaseline] <;> (repeat' split) <;> simp

@[simp] theorem State.decideBaseline_port_frame (s : State) (i : BankId) :
    (s.decideBaseline i).port.grant = s.port.grant ∧ (s.decideBaseline i).port.access = s.port.access := by
  simp only [State.decideBaseline] <;> (repeat' split) <;> simp

@[simp] theorem State.endEvaluation_accumulator_frame (s : State) (i : BankId) :
    (s.endEvaluation i).accumulator.openingCounter = s.accumulator.openingCounter ∧
    (s.endEvaluation i).accumulator.commit = s.accumulator.commit ∧
    (s.endEvaluation i).accumulator.evaluationOrder = s.accumulator.evaluationOrder := by
  simp only [State.endEvaluation] <;> (repeat' split) <;> simp

@[simp] theorem State.endEvaluation_evaluator_frame (s : State) (i : BankId) :
    (s.endEvaluation i).evaluator.template = s.evaluator.template ∧
    (s.endEvaluation i).evaluator.tolerance = s.evaluator.tolerance ∧
    (s.endEvaluation i).evaluator.warn = s.evaluator.warn ∧
    (s.endEvaluation i).evaluator.blindLimit = s.evaluator.blindLimit := by
  simp only [State.endEvaluation] <;> (repeat' split) <;> simp

@[simp] theorem State.endEvaluation_port_frame (s : State) (i : BankId) :
    (s.endEvaluation i).port.grant = s.port.grant ∧ (s.endEvaluation i).port.access = s.port.access := by
  simp only [State.endEvaluation] <;> (repeat' split) <;> simp

@[simp] theorem State.judgeBaseline_accumulator_frame (s : State) :
    s.judgeBaseline.accumulator.openingCounter = s.accumulator.openingCounter ∧
    s.judgeBaseline.accumulator.commit = s.accumulator.commit ∧
    s.judgeBaseline.accumulator.evaluationOrder = s.accumulator.evaluationOrder := by
  simp only [State.judgeBaseline] <;> (repeat' split) <;> simp

@[simp] theorem State.judgeBaseline_comparator_frame (s : State) :
    s.judgeBaseline.comparator.bank = s.comparator.bank ∧ s.judgeBaseline.comparator.rail = s.comparator.rail ∧
    s.judgeBaseline.comparator.baselineUse = s.comparator.baselineUse ∧
    s.judgeBaseline.comparator.deformLimit = s.comparator.deformLimit ∧
    s.judgeBaseline.comparator.meanFloor = s.comparator.meanFloor ∧
    s.judgeBaseline.comparator.mode = s.comparator.mode ∧
    s.judgeBaseline.comparator.descriptor = s.comparator.descriptor ∧
    s.judgeBaseline.comparator.record = s.comparator.record ∧
    s.judgeBaseline.comparator.nextSector = s.comparator.nextSector ∧
    s.judgeBaseline.comparator.results = s.comparator.results ∧
    s.judgeBaseline.comparator.deformCount = s.comparator.deformCount ∧
    s.judgeBaseline.comparator.maxDeviation = s.comparator.maxDeviation := by
  simp only [State.judgeBaseline] <;> (repeat' split) <;> simp

@[simp] theorem State.baselineArrived_accumulator_frame (s : State) (d : List Word) :
    (s.baselineArrived d).accumulator.openingCounter = s.accumulator.openingCounter ∧
    (s.baselineArrived d).accumulator.commit = s.accumulator.commit ∧
    (s.baselineArrived d).accumulator.evaluationOrder = s.accumulator.evaluationOrder := by
  simp only [State.baselineArrived] <;> (repeat' split) <;> simp

@[simp] theorem State.baselineArrived_comparator_frame (s : State) (d : List Word) :
    (s.baselineArrived d).comparator.bank = s.comparator.bank ∧
    (s.baselineArrived d).comparator.rail = s.comparator.rail ∧
    (s.baselineArrived d).comparator.baselineUse = s.comparator.baselineUse ∧
    (s.baselineArrived d).comparator.deformLimit = s.comparator.deformLimit ∧
    (s.baselineArrived d).comparator.meanFloor = s.comparator.meanFloor ∧
    (s.baselineArrived d).comparator.mode = s.comparator.mode ∧
    (s.baselineArrived d).comparator.descriptor = s.comparator.descriptor ∧
    (s.baselineArrived d).comparator.nextSector = s.comparator.nextSector ∧
    (s.baselineArrived d).comparator.results = s.comparator.results ∧
    (s.baselineArrived d).comparator.deformCount = s.comparator.deformCount ∧
    (s.baselineArrived d).comparator.maxDeviation = s.comparator.maxDeviation := by
  simp only [State.baselineArrived] <;> (repeat' split) <;> simp

@[simp] theorem State.abandonStart_control_frame (s : State) :
    s.abandonStart.control.stopPhase = s.control.stopPhase ∧ s.abandonStart.control.stopMode = s.control.stopMode ∧
    s.abandonStart.control.planOffset = s.control.planOffset ∧
    s.abandonStart.control.geometry = s.control.geometry ∧ s.abandonStart.control.lastKind = s.control.lastKind ∧
    s.abandonStart.control.lastResult = s.control.lastResult ∧ s.abandonStart.control.area = s.control.area ∧
    s.abandonStart.control.interruptEnable = s.control.interruptEnable := by
  simp only [State.abandonStart] <;> (repeat' split) <;> simp

@[simp] theorem State.abandonStart_chainage_frame (s : State) :
    s.abandonStart.chainage.chainage = s.chainage.chainage ∧ s.abandonStart.chainage.peak = s.chainage.peak ∧
    s.abandonStart.chainage.tracker = s.chainage.tracker ∧
    s.abandonStart.chainage.lineReference = s.chainage.lineReference := by
  simp only [State.abandonStart] <;> (repeat' split) <;> simp

@[simp] theorem State.refuseSetup_control_frame (s : State) (r : SetupRefusal) :
    (s.refuseSetup r).control.stopPhase = s.control.stopPhase ∧
    (s.refuseSetup r).control.stopMode = s.control.stopMode ∧
    (s.refuseSetup r).control.planOffset = s.control.planOffset ∧
    (s.refuseSetup r).control.geometry = s.control.geometry ∧
    (s.refuseSetup r).control.lastKind = s.control.lastKind ∧
    (s.refuseSetup r).control.lastResult = s.control.lastResult ∧ (s.refuseSetup r).control.area = s.control.area ∧
    (s.refuseSetup r).control.interruptEnable = s.control.interruptEnable := by
  simp only [State.refuseSetup] <;> (repeat' split) <;> simp

@[simp] theorem State.refuseSetup_chainage_frame (s : State) (r : SetupRefusal) :
    (s.refuseSetup r).chainage.chainage = s.chainage.chainage ∧ (s.refuseSetup r).chainage.peak = s.chainage.peak ∧
    (s.refuseSetup r).chainage.tracker = s.chainage.tracker ∧
    (s.refuseSetup r).chainage.lineReference = s.chainage.lineReference := by
  simp only [State.refuseSetup] <;> (repeat' split) <;> simp

@[simp] theorem State.refuseSetup_loader_frame (s : State) (r : SetupRefusal) :
    (s.refuseSetup r).loader.calibration = s.loader.calibration ∧ (s.refuseSetup r).loader.setX = s.loader.setX ∧
    (s.refuseSetup r).loader.setY = s.loader.setY := by
  simp only [State.refuseSetup] <;> (repeat' split) <;> simp

@[simp] theorem State.refuseSetup_notices_frame (s : State) (r : SetupRefusal) :
    (s.refuseSetup r).notices.fault = s.notices.fault ∧ (s.refuseSetup r).notices.linkFault = s.notices.linkFault ∧
    (s.refuseSetup r).notices.alerts = s.notices.alerts ∧
    (s.refuseSetup r).notices.displaced = s.notices.displaced ∧
    (s.refuseSetup r).notices.starved = s.notices.starved ∧
    (s.refuseSetup r).notices.markerMismatch = s.notices.markerMismatch ∧
    (s.refuseSetup r).notices.cantFault = s.notices.cantFault ∧
    (s.refuseSetup r).notices.planTaken = s.notices.planTaken ∧
    (s.refuseSetup r).notices.reversal = s.notices.reversal ∧
    (s.refuseSetup r).notices.stopped = s.notices.stopped ∧
    (s.refuseSetup r).notices.unannounced = s.notices.unannounced ∧
    (s.refuseSetup r).notices.detail = s.notices.detail := by
  simp only [State.refuseSetup] <;> (repeat' split) <;> simp

@[simp] theorem State.loadStartPlan_control_frame (s : State) :
    s.loadStartPlan.control.stopPhase = s.control.stopPhase ∧
    s.loadStartPlan.control.stopMode = s.control.stopMode ∧
    s.loadStartPlan.control.planOffset = s.control.planOffset ∧
    s.loadStartPlan.control.geometry = s.control.geometry ∧ s.loadStartPlan.control.lastKind = s.control.lastKind ∧
    s.loadStartPlan.control.lastResult = s.control.lastResult ∧ s.loadStartPlan.control.area = s.control.area ∧
    s.loadStartPlan.control.interruptEnable = s.control.interruptEnable := by
  simp only [State.loadStartPlan] <;> (repeat' split) <;> simp

@[simp] theorem State.loadStartPlan_chainage_frame (s : State) :
    s.loadStartPlan.chainage.chainage = s.chainage.chainage ∧ s.loadStartPlan.chainage.peak = s.chainage.peak ∧
    s.loadStartPlan.chainage.tracker = s.chainage.tracker ∧
    s.loadStartPlan.chainage.lineReference = s.chainage.lineReference := by
  simp only [State.loadStartPlan] <;> (repeat' split) <;> simp

@[simp] theorem State.loadStartPlan_loader_frame (s : State) :
    s.loadStartPlan.loader.calibration = s.loader.calibration := by
  simp only [State.loadStartPlan] <;> (repeat' split) <;> simp

@[simp] theorem State.loadStartPlan_notices_frame (s : State) :
    s.loadStartPlan.notices.fault = s.notices.fault ∧ s.loadStartPlan.notices.linkFault = s.notices.linkFault ∧
    s.loadStartPlan.notices.alerts = s.notices.alerts ∧ s.loadStartPlan.notices.displaced = s.notices.displaced ∧
    s.loadStartPlan.notices.starved = s.notices.starved ∧
    s.loadStartPlan.notices.markerMismatch = s.notices.markerMismatch ∧
    s.loadStartPlan.notices.cantFault = s.notices.cantFault ∧
    s.loadStartPlan.notices.planTaken = s.notices.planTaken ∧
    s.loadStartPlan.notices.reversal = s.notices.reversal ∧ s.loadStartPlan.notices.stopped = s.notices.stopped ∧
    s.loadStartPlan.notices.unannounced = s.notices.unannounced ∧
    s.loadStartPlan.notices.detail = s.notices.detail := by
  simp only [State.loadStartPlan] <;> (repeat' split) <;> simp

@[simp] theorem State.loadStartPlan_port_frame (s : State) :
    s.loadStartPlan.port.grant = s.port.grant ∧ s.loadStartPlan.port.access = s.port.access := by
  simp only [State.loadStartPlan] <;> (repeat' split) <;> simp

@[simp] theorem State.checkCalibration_control_frame (s : State) (o : Nat) (ws : List Word) :
    (s.checkCalibration o ws).control.stopPhase = s.control.stopPhase ∧
    (s.checkCalibration o ws).control.stopMode = s.control.stopMode ∧
    (s.checkCalibration o ws).control.planOffset = s.control.planOffset ∧
    (s.checkCalibration o ws).control.geometry = s.control.geometry ∧
    (s.checkCalibration o ws).control.lastKind = s.control.lastKind ∧
    (s.checkCalibration o ws).control.lastResult = s.control.lastResult ∧
    (s.checkCalibration o ws).control.area = s.control.area ∧
    (s.checkCalibration o ws).control.interruptEnable = s.control.interruptEnable := by
  simp only [State.checkCalibration] <;> (repeat' split) <;> simp

@[simp] theorem State.checkCalibration_chainage_frame (s : State) (o : Nat) (ws : List Word) :
    (s.checkCalibration o ws).chainage.chainage = s.chainage.chainage ∧
    (s.checkCalibration o ws).chainage.peak = s.chainage.peak ∧
    (s.checkCalibration o ws).chainage.tracker = s.chainage.tracker ∧
    (s.checkCalibration o ws).chainage.lineReference = s.chainage.lineReference := by
  simp only [State.checkCalibration] <;> (repeat' split) <;> simp

@[simp] theorem State.checkCalibration_notices_frame (s : State) (o : Nat) (ws : List Word) :
    (s.checkCalibration o ws).notices.fault = s.notices.fault ∧
    (s.checkCalibration o ws).notices.linkFault = s.notices.linkFault ∧
    (s.checkCalibration o ws).notices.alerts = s.notices.alerts ∧
    (s.checkCalibration o ws).notices.displaced = s.notices.displaced ∧
    (s.checkCalibration o ws).notices.starved = s.notices.starved ∧
    (s.checkCalibration o ws).notices.markerMismatch = s.notices.markerMismatch ∧
    (s.checkCalibration o ws).notices.cantFault = s.notices.cantFault ∧
    (s.checkCalibration o ws).notices.planTaken = s.notices.planTaken ∧
    (s.checkCalibration o ws).notices.reversal = s.notices.reversal ∧
    (s.checkCalibration o ws).notices.stopped = s.notices.stopped ∧
    (s.checkCalibration o ws).notices.unannounced = s.notices.unannounced ∧
    (s.checkCalibration o ws).notices.detail = s.notices.detail := by
  simp only [State.checkCalibration] <;> (repeat' split) <;> simp

@[simp] theorem State.checkCalibration_port_frame (s : State) (o : Nat) (ws : List Word) :
    (s.checkCalibration o ws).port.grant = s.port.grant ∧
    (s.checkCalibration o ws).port.access = s.port.access := by
  simp only [State.checkCalibration] <;> (repeat' split) <;> simp

@[simp] theorem State.calibrationArrived_control_frame (s : State) (ws : List Word) :
    (s.calibrationArrived ws).control.stopPhase = s.control.stopPhase ∧
    (s.calibrationArrived ws).control.stopMode = s.control.stopMode ∧
    (s.calibrationArrived ws).control.planOffset = s.control.planOffset ∧
    (s.calibrationArrived ws).control.geometry = s.control.geometry ∧
    (s.calibrationArrived ws).control.lastKind = s.control.lastKind ∧
    (s.calibrationArrived ws).control.lastResult = s.control.lastResult ∧
    (s.calibrationArrived ws).control.area = s.control.area ∧
    (s.calibrationArrived ws).control.interruptEnable = s.control.interruptEnable := by
  simp only [State.calibrationArrived] <;> (repeat' split) <;> simp

@[simp] theorem State.calibrationArrived_chainage_frame (s : State) (ws : List Word) :
    (s.calibrationArrived ws).chainage.chainage = s.chainage.chainage ∧
    (s.calibrationArrived ws).chainage.peak = s.chainage.peak ∧
    (s.calibrationArrived ws).chainage.tracker = s.chainage.tracker ∧
    (s.calibrationArrived ws).chainage.lineReference = s.chainage.lineReference := by
  simp only [State.calibrationArrived] <;> (repeat' split) <;> simp

@[simp] theorem State.calibrationArrived_notices_frame (s : State) (ws : List Word) :
    (s.calibrationArrived ws).notices.fault = s.notices.fault ∧
    (s.calibrationArrived ws).notices.linkFault = s.notices.linkFault ∧
    (s.calibrationArrived ws).notices.alerts = s.notices.alerts ∧
    (s.calibrationArrived ws).notices.displaced = s.notices.displaced ∧
    (s.calibrationArrived ws).notices.starved = s.notices.starved ∧
    (s.calibrationArrived ws).notices.markerMismatch = s.notices.markerMismatch ∧
    (s.calibrationArrived ws).notices.cantFault = s.notices.cantFault ∧
    (s.calibrationArrived ws).notices.planTaken = s.notices.planTaken ∧
    (s.calibrationArrived ws).notices.reversal = s.notices.reversal ∧
    (s.calibrationArrived ws).notices.stopped = s.notices.stopped ∧
    (s.calibrationArrived ws).notices.unannounced = s.notices.unannounced ∧
    (s.calibrationArrived ws).notices.detail = s.notices.detail := by
  simp only [State.calibrationArrived] <;> (repeat' split) <;> simp

@[simp] theorem State.calibrationArrived_port_frame (s : State) (ws : List Word) :
    (s.calibrationArrived ws).port.grant = s.port.grant ∧
    (s.calibrationArrived ws).port.access = s.port.access := by
  simp only [State.calibrationArrived] <;> (repeat' split) <;> simp

@[simp] theorem State.beginCalibration_control_frame (s : State) :
    s.beginCalibration.control.stopPhase = s.control.stopPhase ∧
    s.beginCalibration.control.stopMode = s.control.stopMode ∧
    s.beginCalibration.control.planOffset = s.control.planOffset ∧
    s.beginCalibration.control.geometry = s.control.geometry ∧
    s.beginCalibration.control.lastKind = s.control.lastKind ∧
    s.beginCalibration.control.lastResult = s.control.lastResult ∧
    s.beginCalibration.control.area = s.control.area ∧
    s.beginCalibration.control.interruptEnable = s.control.interruptEnable := by
  simp only [State.beginCalibration] <;> (repeat' split) <;> simp

@[simp] theorem State.beginCalibration_chainage_frame (s : State) :
    s.beginCalibration.chainage.chainage = s.chainage.chainage ∧
    s.beginCalibration.chainage.peak = s.chainage.peak ∧ s.beginCalibration.chainage.tracker = s.chainage.tracker ∧
    s.beginCalibration.chainage.lineReference = s.chainage.lineReference := by
  simp only [State.beginCalibration] <;> (repeat' split) <;> simp

@[simp] theorem State.beginCalibration_loader_frame (s : State) :
    s.beginCalibration.loader.calibration = s.loader.calibration ∧ s.beginCalibration.loader.setX = s.loader.setX ∧
    s.beginCalibration.loader.setY = s.loader.setY := by
  simp only [State.beginCalibration] <;> (repeat' split) <;> simp

@[simp] theorem State.beginCalibration_notices_frame (s : State) :
    s.beginCalibration.notices.fault = s.notices.fault ∧
    s.beginCalibration.notices.linkFault = s.notices.linkFault ∧
    s.beginCalibration.notices.alerts = s.notices.alerts ∧
    s.beginCalibration.notices.displaced = s.notices.displaced ∧
    s.beginCalibration.notices.starved = s.notices.starved ∧
    s.beginCalibration.notices.markerMismatch = s.notices.markerMismatch ∧
    s.beginCalibration.notices.cantFault = s.notices.cantFault ∧
    s.beginCalibration.notices.planTaken = s.notices.planTaken ∧
    s.beginCalibration.notices.reversal = s.notices.reversal ∧
    s.beginCalibration.notices.stopped = s.notices.stopped ∧
    s.beginCalibration.notices.unannounced = s.notices.unannounced ∧
    s.beginCalibration.notices.detail = s.notices.detail := by
  simp only [State.beginCalibration] <;> (repeat' split) <;> simp

@[simp] theorem State.beginCalibration_port_frame (s : State) :
    s.beginCalibration.port.grant = s.port.grant ∧ s.beginCalibration.port.access = s.port.access := by
  simp only [State.beginCalibration] <;> (repeat' split) <;> simp

@[simp] theorem State.headerArrived_control_frame (s : State) (ws : List Word) :
    (s.headerArrived ws).control.stopPhase = s.control.stopPhase ∧
    (s.headerArrived ws).control.stopMode = s.control.stopMode ∧
    (s.headerArrived ws).control.planOffset = s.control.planOffset ∧
    (s.headerArrived ws).control.lastKind = s.control.lastKind ∧
    (s.headerArrived ws).control.lastResult = s.control.lastResult ∧
    (s.headerArrived ws).control.area = s.control.area ∧
    (s.headerArrived ws).control.interruptEnable = s.control.interruptEnable := by
  simp only [State.headerArrived] <;> (repeat' split) <;> simp

@[simp] theorem State.headerArrived_chainage_frame (s : State) (ws : List Word) :
    (s.headerArrived ws).chainage.chainage = s.chainage.chainage ∧
    (s.headerArrived ws).chainage.peak = s.chainage.peak ∧
    (s.headerArrived ws).chainage.tracker = s.chainage.tracker ∧
    (s.headerArrived ws).chainage.lineReference = s.chainage.lineReference := by
  simp only [State.headerArrived] <;> (repeat' split) <;> simp

@[simp] theorem State.headerArrived_loader_frame (s : State) (ws : List Word) :
    (s.headerArrived ws).loader.calibration = s.loader.calibration ∧
    (s.headerArrived ws).loader.setX = s.loader.setX ∧ (s.headerArrived ws).loader.setY = s.loader.setY := by
  simp only [State.headerArrived] <;> (repeat' split) <;> simp

@[simp] theorem State.headerArrived_notices_frame (s : State) (ws : List Word) :
    (s.headerArrived ws).notices.fault = s.notices.fault ∧
    (s.headerArrived ws).notices.linkFault = s.notices.linkFault ∧
    (s.headerArrived ws).notices.alerts = s.notices.alerts ∧
    (s.headerArrived ws).notices.displaced = s.notices.displaced ∧
    (s.headerArrived ws).notices.starved = s.notices.starved ∧
    (s.headerArrived ws).notices.markerMismatch = s.notices.markerMismatch ∧
    (s.headerArrived ws).notices.cantFault = s.notices.cantFault ∧
    (s.headerArrived ws).notices.planTaken = s.notices.planTaken ∧
    (s.headerArrived ws).notices.reversal = s.notices.reversal ∧
    (s.headerArrived ws).notices.stopped = s.notices.stopped ∧
    (s.headerArrived ws).notices.unannounced = s.notices.unannounced ∧
    (s.headerArrived ws).notices.detail = s.notices.detail := by
  simp only [State.headerArrived] <;> (repeat' split) <;> simp

@[simp] theorem State.headerArrived_port_frame (s : State) (ws : List Word) :
    (s.headerArrived ws).port.grant = s.port.grant ∧ (s.headerArrived ws).port.access = s.port.access := by
  simp only [State.headerArrived] <;> (repeat' split) <;> simp

@[simp] theorem State.initialiseChainage_chainage_frame (s : State) :
    s.initialiseChainage.chainage.peak = s.chainage.peak ∧
    s.initialiseChainage.chainage.openStation = s.chainage.openStation := by
  simp only [State.initialiseChainage] <;> (repeat' split) <;> simp

@[simp] theorem State.initialiseSheets_notices_frame (s : State) (g : Geometry) :
    (s.initialiseSheets g).notices.fault = s.notices.fault ∧
    (s.initialiseSheets g).notices.linkFault = s.notices.linkFault ∧
    (s.initialiseSheets g).notices.alerts = s.notices.alerts ∧
    (s.initialiseSheets g).notices.displaced = s.notices.displaced ∧
    (s.initialiseSheets g).notices.markerMismatch = s.notices.markerMismatch ∧
    (s.initialiseSheets g).notices.cantFault = s.notices.cantFault ∧
    (s.initialiseSheets g).notices.setupFault = s.notices.setupFault ∧
    (s.initialiseSheets g).notices.planTaken = s.notices.planTaken ∧
    (s.initialiseSheets g).notices.reversal = s.notices.reversal ∧
    (s.initialiseSheets g).notices.stopped = s.notices.stopped ∧
    (s.initialiseSheets g).notices.detail = s.notices.detail := by
  simp only [State.initialiseSheets] <;> (repeat' split) <;> simp

@[simp] theorem State.initialiseSheets_port_frame (s : State) (g : Geometry) :
    (s.initialiseSheets g).port.grant = s.port.grant ∧ (s.initialiseSheets g).port.access = s.port.access := by
  simp only [State.initialiseSheets] <;> (repeat' split) <;> simp

@[simp] theorem State.initialiseBlocks_control_frame (s : State) :
    s.initialiseBlocks.control.survey = s.control.survey ∧
    s.initialiseBlocks.control.stopPhase = s.control.stopPhase ∧
    s.initialiseBlocks.control.stopMode = s.control.stopMode ∧
    s.initialiseBlocks.control.planOffset = s.control.planOffset ∧
    s.initialiseBlocks.control.geometry = s.control.geometry ∧
    s.initialiseBlocks.control.lastKind = s.control.lastKind ∧
    s.initialiseBlocks.control.lastResult = s.control.lastResult ∧
    s.initialiseBlocks.control.area = s.control.area ∧
    s.initialiseBlocks.control.interruptEnable = s.control.interruptEnable := by
  simp only [State.initialiseBlocks] <;> (repeat' split) <;> simp

@[simp] theorem State.initialiseBlocks_chainage_frame (s : State) :
    s.initialiseBlocks.chainage.peak = s.chainage.peak ∧
    s.initialiseBlocks.chainage.openStation = s.chainage.openStation := by
  simp only [State.initialiseBlocks] <;> (repeat' split) <;> simp

@[simp] theorem State.initialiseBlocks_accumulator_frame (s : State) :
    s.initialiseBlocks.accumulator.commit = s.accumulator.commit ∧
    s.initialiseBlocks.accumulator.evaluationOrder = s.accumulator.evaluationOrder ∧
    s.initialiseBlocks.accumulator.bank0 = s.accumulator.bank0 ∧
    s.initialiseBlocks.accumulator.bank1 = s.accumulator.bank1 := by
  simp only [State.initialiseBlocks] <;> (repeat' split) <;> simp

@[simp] theorem State.initialiseBlocks_notices_frame (s : State) :
    s.initialiseBlocks.notices.fault = s.notices.fault ∧
    s.initialiseBlocks.notices.linkFault = s.notices.linkFault ∧
    s.initialiseBlocks.notices.alerts = s.notices.alerts ∧
    s.initialiseBlocks.notices.displaced = s.notices.displaced ∧
    s.initialiseBlocks.notices.markerMismatch = s.notices.markerMismatch ∧
    s.initialiseBlocks.notices.cantFault = s.notices.cantFault ∧
    s.initialiseBlocks.notices.setupFault = s.notices.setupFault ∧
    s.initialiseBlocks.notices.planTaken = s.notices.planTaken ∧
    s.initialiseBlocks.notices.reversal = s.notices.reversal ∧
    s.initialiseBlocks.notices.stopped = s.notices.stopped ∧
    s.initialiseBlocks.notices.detail = s.notices.detail := by
  simp only [State.initialiseBlocks] <;> (repeat' split) <;> simp

@[simp] theorem State.initialiseBlocks_port_frame (s : State) :
    s.initialiseBlocks.port.grant = s.port.grant ∧ s.initialiseBlocks.port.access = s.port.access := by
  simp only [State.initialiseBlocks] <;> (repeat' split) <;> simp

@[simp] theorem State.copyArrived_loader_frame (s : State) (t : SetId) (ws : List Word) :
    (s.copyArrived t ws).loader.calibration = s.loader.calibration ∧
    (s.copyArrived t ws).loader.calibrationWords = s.loader.calibrationWords ∧
    (s.copyArrived t ws).loader.load = s.loader.load := by
  simp [State.copyArrived]

@[simp] theorem State.loadPassed_control_frame (s : State) (t : SetId) (o : Nat) (ws : List Word) :
    (s.loadPassed t o ws).control.survey = s.control.survey ∧
    (s.loadPassed t o ws).control.stopPhase = s.control.stopPhase ∧
    (s.loadPassed t o ws).control.stopMode = s.control.stopMode ∧
    (s.loadPassed t o ws).control.planOffset = s.control.planOffset ∧
    (s.loadPassed t o ws).control.geometry = s.control.geometry ∧
    (s.loadPassed t o ws).control.lastKind = s.control.lastKind ∧
    (s.loadPassed t o ws).control.lastResult = s.control.lastResult ∧
    (s.loadPassed t o ws).control.area = s.control.area ∧
    (s.loadPassed t o ws).control.interruptEnable = s.control.interruptEnable := by
  simp only [State.loadPassed] <;> (repeat' split) <;> simp

@[simp] theorem State.loadPassed_chainage_frame (s : State) (t : SetId) (o : Nat) (ws : List Word) :
    (s.loadPassed t o ws).chainage.peak = s.chainage.peak ∧
    (s.loadPassed t o ws).chainage.openStation = s.chainage.openStation := by
  simp only [State.loadPassed] <;> (repeat' split) <;> simp

@[simp] theorem State.loadPassed_accumulator_frame (s : State) (t : SetId) (o : Nat) (ws : List Word) :
    (s.loadPassed t o ws).accumulator.commit = s.accumulator.commit ∧
    (s.loadPassed t o ws).accumulator.evaluationOrder = s.accumulator.evaluationOrder ∧
    (s.loadPassed t o ws).accumulator.bank0 = s.accumulator.bank0 ∧
    (s.loadPassed t o ws).accumulator.bank1 = s.accumulator.bank1 := by
  simp only [State.loadPassed] <;> (repeat' split) <;> simp

@[simp] theorem State.loadPassed_notices_frame (s : State) (t : SetId) (o : Nat) (ws : List Word) :
    (s.loadPassed t o ws).notices.fault = s.notices.fault ∧
    (s.loadPassed t o ws).notices.linkFault = s.notices.linkFault ∧
    (s.loadPassed t o ws).notices.alerts = s.notices.alerts ∧
    (s.loadPassed t o ws).notices.displaced = s.notices.displaced ∧
    (s.loadPassed t o ws).notices.markerMismatch = s.notices.markerMismatch ∧
    (s.loadPassed t o ws).notices.cantFault = s.notices.cantFault ∧
    (s.loadPassed t o ws).notices.setupFault = s.notices.setupFault ∧
    (s.loadPassed t o ws).notices.planTaken = s.notices.planTaken ∧
    (s.loadPassed t o ws).notices.reversal = s.notices.reversal ∧
    (s.loadPassed t o ws).notices.stopped = s.notices.stopped ∧
    (s.loadPassed t o ws).notices.detail = s.notices.detail := by
  simp only [State.loadPassed] <;> (repeat' split) <;> simp

@[simp] theorem State.loadPassed_port_frame (s : State) (t : SetId) (o : Nat) (ws : List Word) :
    (s.loadPassed t o ws).port.grant = s.port.grant ∧ (s.loadPassed t o ws).port.access = s.port.access := by
  simp only [State.loadPassed] <;> (repeat' split) <;> simp

@[simp] theorem State.loadPassed_loader_frame (s : State) (t : SetId) (o : Nat) (ws : List Word) :
    (s.loadPassed t o ws).loader.calibration = s.loader.calibration ∧
    (s.loadPassed t o ws).loader.calibrationWords = s.loader.calibrationWords := by
  simp only [State.loadPassed] <;> (repeat' split) <;> simp

@[simp] theorem State.askPlan_loader_frame (s : State) (t : SetId) (o : Nat) (p : LoadPhase) (q : Purpose) (ws : List Word) (n : Nat) :
    (s.askPlan t o p q ws n).loader.calibration = s.loader.calibration ∧
    (s.askPlan t o p q ws n).loader.calibrationWords = s.loader.calibrationWords ∧
    (s.askPlan t o p q ws n).loader.setX = s.loader.setX ∧
    (s.askPlan t o p q ws n).loader.setY = s.loader.setY := by
  simp only [State.askPlan] <;> (repeat' split) <;> simp

@[simp] theorem State.askPlan_port_frame (s : State) (t : SetId) (o : Nat) (p : LoadPhase) (q : Purpose) (ws : List Word) (n : Nat) :
    (s.askPlan t o p q ws n).port.grant = s.port.grant ∧ (s.askPlan t o p q ws n).port.access = s.port.access := by
  simp only [State.askPlan] <;> (repeat' split) <;> simp

@[simp] theorem State.planHeaderArrived_control_frame (s : State) (t : SetId) (o : Nat) (ws : List Word) :
    (s.planHeaderArrived t o ws).control.stopPhase = s.control.stopPhase ∧
    (s.planHeaderArrived t o ws).control.stopMode = s.control.stopMode ∧
    (s.planHeaderArrived t o ws).control.planOffset = s.control.planOffset ∧
    (s.planHeaderArrived t o ws).control.geometry = s.control.geometry ∧
    (s.planHeaderArrived t o ws).control.lastKind = s.control.lastKind ∧
    (s.planHeaderArrived t o ws).control.lastResult = s.control.lastResult ∧
    (s.planHeaderArrived t o ws).control.area = s.control.area ∧
    (s.planHeaderArrived t o ws).control.interruptEnable = s.control.interruptEnable := by
  simp only [State.planHeaderArrived] <;> (repeat' split) <;> simp

@[simp] theorem State.planHeaderArrived_chainage_frame (s : State) (t : SetId) (o : Nat) (ws : List Word) :
    (s.planHeaderArrived t o ws).chainage.chainage = s.chainage.chainage ∧
    (s.planHeaderArrived t o ws).chainage.peak = s.chainage.peak ∧
    (s.planHeaderArrived t o ws).chainage.tracker = s.chainage.tracker ∧
    (s.planHeaderArrived t o ws).chainage.lineReference = s.chainage.lineReference := by
  simp only [State.planHeaderArrived] <;> (repeat' split) <;> simp

@[simp] theorem State.planHeaderArrived_loader_frame (s : State) (t : SetId) (o : Nat) (ws : List Word) :
    (s.planHeaderArrived t o ws).loader.calibration = s.loader.calibration := by
  simp only [State.planHeaderArrived] <;> (repeat' split) <;> simp

@[simp] theorem State.planHeaderArrived_notices_frame (s : State) (t : SetId) (o : Nat) (ws : List Word) :
    (s.planHeaderArrived t o ws).notices.fault = s.notices.fault ∧
    (s.planHeaderArrived t o ws).notices.linkFault = s.notices.linkFault ∧
    (s.planHeaderArrived t o ws).notices.alerts = s.notices.alerts ∧
    (s.planHeaderArrived t o ws).notices.displaced = s.notices.displaced ∧
    (s.planHeaderArrived t o ws).notices.starved = s.notices.starved ∧
    (s.planHeaderArrived t o ws).notices.markerMismatch = s.notices.markerMismatch ∧
    (s.planHeaderArrived t o ws).notices.cantFault = s.notices.cantFault ∧
    (s.planHeaderArrived t o ws).notices.planTaken = s.notices.planTaken ∧
    (s.planHeaderArrived t o ws).notices.reversal = s.notices.reversal ∧
    (s.planHeaderArrived t o ws).notices.stopped = s.notices.stopped ∧
    (s.planHeaderArrived t o ws).notices.unannounced = s.notices.unannounced ∧
    (s.planHeaderArrived t o ws).notices.detail = s.notices.detail := by
  simp only [State.planHeaderArrived] <;> (repeat' split) <;> simp

@[simp] theorem State.planHeaderArrived_port_frame (s : State) (t : SetId) (o : Nat) (ws : List Word) :
    (s.planHeaderArrived t o ws).port.grant = s.port.grant ∧
    (s.planHeaderArrived t o ws).port.access = s.port.access := by
  simp only [State.planHeaderArrived] <;> (repeat' split) <;> simp

@[simp] theorem State.planArraysArrived_control_frame (s : State) (t : SetId) (o : Nat) (ws : List Word) :
    (s.planArraysArrived t o ws).control.stopPhase = s.control.stopPhase ∧
    (s.planArraysArrived t o ws).control.stopMode = s.control.stopMode ∧
    (s.planArraysArrived t o ws).control.planOffset = s.control.planOffset ∧
    (s.planArraysArrived t o ws).control.geometry = s.control.geometry ∧
    (s.planArraysArrived t o ws).control.lastKind = s.control.lastKind ∧
    (s.planArraysArrived t o ws).control.lastResult = s.control.lastResult ∧
    (s.planArraysArrived t o ws).control.area = s.control.area ∧
    (s.planArraysArrived t o ws).control.interruptEnable = s.control.interruptEnable := by
  simp only [State.planArraysArrived] <;> (repeat' split) <;> simp

@[simp] theorem State.planArraysArrived_chainage_frame (s : State) (t : SetId) (o : Nat) (ws : List Word) :
    (s.planArraysArrived t o ws).chainage.peak = s.chainage.peak := by
  simp only [State.planArraysArrived] <;> (repeat' split) <;> simp

@[simp] theorem State.planArraysArrived_accumulator_frame (s : State) (t : SetId) (o : Nat) (ws : List Word) :
    (s.planArraysArrived t o ws).accumulator.commit = s.accumulator.commit ∧
    (s.planArraysArrived t o ws).accumulator.evaluationOrder = s.accumulator.evaluationOrder ∧
    (s.planArraysArrived t o ws).accumulator.bank0 = s.accumulator.bank0 ∧
    (s.planArraysArrived t o ws).accumulator.bank1 = s.accumulator.bank1 := by
  simp only [State.planArraysArrived] <;> (repeat' split) <;> simp

@[simp] theorem State.planArraysArrived_loader_frame (s : State) (t : SetId) (o : Nat) (ws : List Word) :
    (s.planArraysArrived t o ws).loader.calibration = s.loader.calibration := by
  simp only [State.planArraysArrived] <;> (repeat' split) <;> simp

@[simp] theorem State.planArraysArrived_notices_frame (s : State) (t : SetId) (o : Nat) (ws : List Word) :
    (s.planArraysArrived t o ws).notices.fault = s.notices.fault ∧
    (s.planArraysArrived t o ws).notices.linkFault = s.notices.linkFault ∧
    (s.planArraysArrived t o ws).notices.alerts = s.notices.alerts ∧
    (s.planArraysArrived t o ws).notices.displaced = s.notices.displaced ∧
    (s.planArraysArrived t o ws).notices.markerMismatch = s.notices.markerMismatch ∧
    (s.planArraysArrived t o ws).notices.cantFault = s.notices.cantFault ∧
    (s.planArraysArrived t o ws).notices.planTaken = s.notices.planTaken ∧
    (s.planArraysArrived t o ws).notices.reversal = s.notices.reversal ∧
    (s.planArraysArrived t o ws).notices.stopped = s.notices.stopped ∧
    (s.planArraysArrived t o ws).notices.detail = s.notices.detail := by
  simp only [State.planArraysArrived] <;> (repeat' split) <;> simp

@[simp] theorem State.planArraysArrived_port_frame (s : State) (t : SetId) (o : Nat) (ws : List Word) :
    (s.planArraysArrived t o ws).port.grant = s.port.grant ∧
    (s.planArraysArrived t o ws).port.access = s.port.access := by
  simp only [State.planArraysArrived] <;> (repeat' split) <;> simp

@[simp] theorem State.planArrived_control_frame (s : State) (ws : List Word) :
    (s.planArrived ws).control.stopPhase = s.control.stopPhase ∧
    (s.planArrived ws).control.stopMode = s.control.stopMode ∧
    (s.planArrived ws).control.planOffset = s.control.planOffset ∧
    (s.planArrived ws).control.geometry = s.control.geometry ∧
    (s.planArrived ws).control.lastKind = s.control.lastKind ∧
    (s.planArrived ws).control.lastResult = s.control.lastResult ∧
    (s.planArrived ws).control.area = s.control.area ∧
    (s.planArrived ws).control.interruptEnable = s.control.interruptEnable := by
  simp only [State.planArrived] <;> (repeat' split) <;> simp

@[simp] theorem State.planArrived_chainage_frame (s : State) (ws : List Word) :
    (s.planArrived ws).chainage.peak = s.chainage.peak := by
  simp only [State.planArrived] <;> (repeat' split) <;> simp

@[simp] theorem State.planArrived_accumulator_frame (s : State) (ws : List Word) :
    (s.planArrived ws).accumulator.commit = s.accumulator.commit ∧
    (s.planArrived ws).accumulator.evaluationOrder = s.accumulator.evaluationOrder ∧
    (s.planArrived ws).accumulator.bank0 = s.accumulator.bank0 ∧
    (s.planArrived ws).accumulator.bank1 = s.accumulator.bank1 := by
  simp only [State.planArrived] <;> (repeat' split) <;> simp

@[simp] theorem State.planArrived_loader_frame (s : State) (ws : List Word) :
    (s.planArrived ws).loader.calibration = s.loader.calibration := by
  simp only [State.planArrived] <;> (repeat' split) <;> simp

@[simp] theorem State.planArrived_notices_frame (s : State) (ws : List Word) :
    (s.planArrived ws).notices.fault = s.notices.fault ∧
    (s.planArrived ws).notices.linkFault = s.notices.linkFault ∧
    (s.planArrived ws).notices.alerts = s.notices.alerts ∧
    (s.planArrived ws).notices.displaced = s.notices.displaced ∧
    (s.planArrived ws).notices.markerMismatch = s.notices.markerMismatch ∧
    (s.planArrived ws).notices.cantFault = s.notices.cantFault ∧
    (s.planArrived ws).notices.planTaken = s.notices.planTaken ∧
    (s.planArrived ws).notices.reversal = s.notices.reversal ∧
    (s.planArrived ws).notices.stopped = s.notices.stopped ∧
    (s.planArrived ws).notices.detail = s.notices.detail := by
  simp only [State.planArrived] <;> (repeat' split) <;> simp

@[simp] theorem State.planArrived_port_frame (s : State) (ws : List Word) :
    (s.planArrived ws).port.grant = s.port.grant ∧ (s.planArrived ws).port.access = s.port.access := by
  simp only [State.planArrived] <;> (repeat' split) <;> simp

@[simp] theorem State.openIntake_sweep_frame (s : State) :
    s.openIntake.sweep.bufferA = s.sweep.bufferA ∧ s.openIntake.sweep.bufferB = s.sweep.bufferB ∧
    s.openIntake.sweep.current = s.sweep.current ∧ s.openIntake.sweep.handover = s.sweep.handover ∧
    s.openIntake.sweep.lastCommand = s.sweep.lastCommand := by
  simp only [State.openIntake] <;> (repeat' split) <;> simp

@[simp] theorem State.openIntake_notices_frame (s : State) :
    s.openIntake.notices.fault = s.notices.fault ∧ s.openIntake.notices.alerts = s.notices.alerts ∧
    s.openIntake.notices.displaced = s.notices.displaced ∧ s.openIntake.notices.starved = s.notices.starved ∧
    s.openIntake.notices.markerMismatch = s.notices.markerMismatch ∧
    s.openIntake.notices.cantFault = s.notices.cantFault ∧ s.openIntake.notices.setupFault = s.notices.setupFault ∧
    s.openIntake.notices.planTaken = s.notices.planTaken ∧ s.openIntake.notices.reversal = s.notices.reversal ∧
    s.openIntake.notices.stopped = s.notices.stopped ∧ s.openIntake.notices.unannounced = s.notices.unannounced ∧
    s.openIntake.notices.detail = s.notices.detail := by
  simp only [State.openIntake] <;> (repeat' split) <;> simp

@[simp] theorem State.openFirstStation_accumulator_frame (s : State) :
    s.openFirstStation.accumulator.commit = s.accumulator.commit ∧
    s.openFirstStation.accumulator.evaluationOrder = s.accumulator.evaluationOrder := by
  simp only [State.openFirstStation] <;> (repeat' split) <;> simp

@[simp] theorem State.openFirstStation_loader_frame (s : State) :
    s.openFirstStation.loader.calibration = s.loader.calibration ∧
    s.openFirstStation.loader.calibrationWords = s.loader.calibrationWords ∧
    s.openFirstStation.loader.load = s.loader.load := by
  simp only [State.openFirstStation] <;> (repeat' split) <;> simp

@[simp] theorem State.openFirstStation_chainage_frame (s : State) :
    s.openFirstStation.chainage.chainage = s.chainage.chainage ∧
    s.openFirstStation.chainage.tracker = s.chainage.tracker ∧
    s.openFirstStation.chainage.lineReference = s.chainage.lineReference ∧
    s.openFirstStation.chainage.marker = s.chainage.marker := by
  simp only [State.openFirstStation] <;> (repeat' split) <;> simp

@[simp] theorem State.openFirstStation_sheets_frame (s : State) :
    s.openFirstStation.sheets.sheetCount = s.sheets.sheetCount ∧
    s.openFirstStation.sheets.sheetSize = s.sheets.sheetSize ∧
    s.openFirstStation.sheets.sheetBase = s.sheets.sheetBase ∧
    s.openFirstStation.sheets.closedSheets = s.sheets.closedSheets ∧
    s.openFirstStation.sheets.stopMode = s.sheets.stopMode ∧
    s.openFirstStation.sheets.endWaiting = s.sheets.endWaiting ∧
    s.openFirstStation.sheets.endWritten = s.sheets.endWritten := by
  simp only [State.openFirstStation] <;> (repeat' split) <;> simp

@[simp] theorem State.openFirstStation_notices_frame (s : State) :
    s.openFirstStation.notices.fault = s.notices.fault ∧
    s.openFirstStation.notices.linkFault = s.notices.linkFault ∧
    s.openFirstStation.notices.alerts = s.notices.alerts ∧
    s.openFirstStation.notices.displaced = s.notices.displaced ∧
    s.openFirstStation.notices.markerMismatch = s.notices.markerMismatch ∧
    s.openFirstStation.notices.cantFault = s.notices.cantFault ∧
    s.openFirstStation.notices.setupFault = s.notices.setupFault ∧
    s.openFirstStation.notices.reversal = s.notices.reversal ∧
    s.openFirstStation.notices.stopped = s.notices.stopped ∧
    s.openFirstStation.notices.unannounced = s.notices.unannounced ∧
    s.openFirstStation.notices.detail = s.notices.detail := by
  simp only [State.openFirstStation] <;> (repeat' split) <;> simp

@[simp] theorem State.openFirstStation_port_frame (s : State) :
    s.openFirstStation.port.grant = s.port.grant ∧ s.openFirstStation.port.access = s.port.access := by
  simp only [State.openFirstStation] <;> (repeat' split) <;> simp

@[simp] theorem State.beginDraining_sheets_frame (s : State) :
    s.beginDraining.sheets.sheetCount = s.sheets.sheetCount ∧
    s.beginDraining.sheets.sheetSize = s.sheets.sheetSize ∧ s.beginDraining.sheets.sheetBase = s.sheets.sheetBase ∧
    s.beginDraining.sheets.queue = s.sheets.queue ∧ s.beginDraining.sheets.lost = s.sheets.lost ∧
    s.beginDraining.sheets.runLost = s.sheets.runLost ∧
    s.beginDraining.sheets.closedSheets = s.sheets.closedSheets ∧
    s.beginDraining.sheets.stopMode = s.sheets.stopMode ∧ s.beginDraining.sheets.endWaiting = s.sheets.endWaiting ∧
    s.beginDraining.sheets.endWritten = s.sheets.endWritten := by
  simp only [State.beginDraining] <;> (repeat' split) <;> simp

@[simp] theorem State.beginDraining_notices_frame (s : State) :
    s.beginDraining.notices.fault = s.notices.fault ∧ s.beginDraining.notices.linkFault = s.notices.linkFault ∧
    s.beginDraining.notices.alerts = s.notices.alerts ∧ s.beginDraining.notices.displaced = s.notices.displaced ∧
    s.beginDraining.notices.markerMismatch = s.notices.markerMismatch ∧
    s.beginDraining.notices.cantFault = s.notices.cantFault ∧
    s.beginDraining.notices.setupFault = s.notices.setupFault ∧
    s.beginDraining.notices.planTaken = s.notices.planTaken ∧
    s.beginDraining.notices.reversal = s.notices.reversal ∧ s.beginDraining.notices.stopped = s.notices.stopped ∧
    s.beginDraining.notices.unannounced = s.notices.unannounced ∧
    s.beginDraining.notices.detail = s.notices.detail := by
  simp only [State.beginDraining] <;> (repeat' split) <;> simp

@[simp] theorem State.beginDraining_port_frame (s : State) :
    s.beginDraining.port.grant = s.port.grant ∧ s.beginDraining.port.access = s.port.access := by
  simp only [State.beginDraining] <;> (repeat' split) <;> simp

@[simp] theorem State.completeStart_sweep_frame (s : State) :
    s.completeStart.sweep.bufferA = s.sweep.bufferA ∧ s.completeStart.sweep.bufferB = s.sweep.bufferB ∧
    s.completeStart.sweep.current = s.sweep.current ∧ s.completeStart.sweep.handover = s.sweep.handover := by
  simp only [State.completeStart] <;> (repeat' split) <;> simp

@[simp] theorem State.completeStart_accumulator_frame (s : State) :
    s.completeStart.accumulator.commit = s.accumulator.commit ∧
    s.completeStart.accumulator.evaluationOrder = s.accumulator.evaluationOrder := by
  simp only [State.completeStart] <;> (repeat' split) <;> simp

@[simp] theorem State.completeStart_loader_frame (s : State) :
    s.completeStart.loader.calibration = s.loader.calibration ∧
    s.completeStart.loader.calibrationWords = s.loader.calibrationWords ∧
    s.completeStart.loader.load = s.loader.load := by
  simp only [State.completeStart] <;> (repeat' split) <;> simp

@[simp] theorem State.completeStart_chainage_frame (s : State) :
    s.completeStart.chainage.chainage = s.chainage.chainage ∧
    s.completeStart.chainage.tracker = s.chainage.tracker ∧
    s.completeStart.chainage.lineReference = s.chainage.lineReference ∧
    s.completeStart.chainage.marker = s.chainage.marker := by
  simp only [State.completeStart] <;> (repeat' split) <;> simp

@[simp] theorem State.completeStart_control_frame (s : State) :
    s.completeStart.control.stopPhase = s.control.stopPhase ∧
    s.completeStart.control.stopMode = s.control.stopMode ∧
    s.completeStart.control.planOffset = s.control.planOffset ∧
    s.completeStart.control.geometry = s.control.geometry ∧ s.completeStart.control.lastKind = s.control.lastKind ∧
    s.completeStart.control.lastResult = s.control.lastResult ∧ s.completeStart.control.area = s.control.area ∧
    s.completeStart.control.interruptEnable = s.control.interruptEnable := by
  simp only [State.completeStart] <;> (repeat' split) <;> simp

@[simp] theorem State.completeStart_sheets_frame (s : State) :
    s.completeStart.sheets.sheetCount = s.sheets.sheetCount ∧
    s.completeStart.sheets.sheetSize = s.sheets.sheetSize ∧ s.completeStart.sheets.sheetBase = s.sheets.sheetBase ∧
    s.completeStart.sheets.closedSheets = s.sheets.closedSheets ∧
    s.completeStart.sheets.stopMode = s.sheets.stopMode ∧ s.completeStart.sheets.endWaiting = s.sheets.endWaiting ∧
    s.completeStart.sheets.endWritten = s.sheets.endWritten := by
  simp only [State.completeStart] <;> (repeat' split) <;> simp

@[simp] theorem State.completeStart_notices_frame (s : State) :
    s.completeStart.notices.fault = s.notices.fault ∧ s.completeStart.notices.alerts = s.notices.alerts ∧
    s.completeStart.notices.displaced = s.notices.displaced ∧
    s.completeStart.notices.markerMismatch = s.notices.markerMismatch ∧
    s.completeStart.notices.cantFault = s.notices.cantFault ∧
    s.completeStart.notices.setupFault = s.notices.setupFault ∧
    s.completeStart.notices.reversal = s.notices.reversal ∧ s.completeStart.notices.stopped = s.notices.stopped ∧
    s.completeStart.notices.unannounced = s.notices.unannounced ∧
    s.completeStart.notices.detail = s.notices.detail := by
  simp only [State.completeStart] <;> (repeat' split) <;> simp

@[simp] theorem State.completeStart_port_frame (s : State) :
    s.completeStart.port.grant = s.port.grant ∧ s.completeStart.port.access = s.port.access := by
  simp only [State.completeStart] <;> (repeat' split) <;> simp

@[simp] theorem State.endInitialising_sweep_frame (s : State) :
    s.endInitialising.sweep.bufferA = s.sweep.bufferA ∧ s.endInitialising.sweep.bufferB = s.sweep.bufferB ∧
    s.endInitialising.sweep.current = s.sweep.current ∧ s.endInitialising.sweep.handover = s.sweep.handover := by
  simp only [State.endInitialising] <;> (repeat' split) <;> simp

@[simp] theorem State.endInitialising_accumulator_frame (s : State) :
    s.endInitialising.accumulator.commit = s.accumulator.commit ∧
    s.endInitialising.accumulator.evaluationOrder = s.accumulator.evaluationOrder := by
  simp only [State.endInitialising] <;> (repeat' split) <;> simp

@[simp] theorem State.endInitialising_loader_frame (s : State) :
    s.endInitialising.loader.calibration = s.loader.calibration ∧
    s.endInitialising.loader.calibrationWords = s.loader.calibrationWords ∧
    s.endInitialising.loader.load = s.loader.load := by
  simp only [State.endInitialising] <;> (repeat' split) <;> simp

@[simp] theorem State.endInitialising_chainage_frame (s : State) :
    s.endInitialising.chainage.chainage = s.chainage.chainage ∧
    s.endInitialising.chainage.tracker = s.chainage.tracker ∧
    s.endInitialising.chainage.lineReference = s.chainage.lineReference ∧
    s.endInitialising.chainage.marker = s.chainage.marker := by
  simp only [State.endInitialising] <;> (repeat' split) <;> simp

@[simp] theorem State.endInitialising_control_frame (s : State) :
    s.endInitialising.control.stopPhase = s.control.stopPhase ∧
    s.endInitialising.control.stopMode = s.control.stopMode ∧
    s.endInitialising.control.planOffset = s.control.planOffset ∧
    s.endInitialising.control.geometry = s.control.geometry ∧
    s.endInitialising.control.lastKind = s.control.lastKind ∧
    s.endInitialising.control.lastResult = s.control.lastResult ∧ s.endInitialising.control.area = s.control.area ∧
    s.endInitialising.control.interruptEnable = s.control.interruptEnable := by
  simp only [State.endInitialising] <;> (repeat' split) <;> simp

@[simp] theorem State.endInitialising_sheets_frame (s : State) :
    s.endInitialising.sheets.sheetCount = s.sheets.sheetCount ∧
    s.endInitialising.sheets.sheetSize = s.sheets.sheetSize ∧
    s.endInitialising.sheets.sheetBase = s.sheets.sheetBase ∧
    s.endInitialising.sheets.closedSheets = s.sheets.closedSheets ∧
    s.endInitialising.sheets.stopMode = s.sheets.stopMode ∧
    s.endInitialising.sheets.endWaiting = s.sheets.endWaiting ∧
    s.endInitialising.sheets.endWritten = s.sheets.endWritten := by
  simp only [State.endInitialising] <;> (repeat' split) <;> simp

@[simp] theorem State.endInitialising_notices_frame (s : State) :
    s.endInitialising.notices.fault = s.notices.fault ∧ s.endInitialising.notices.alerts = s.notices.alerts ∧
    s.endInitialising.notices.displaced = s.notices.displaced ∧
    s.endInitialising.notices.markerMismatch = s.notices.markerMismatch ∧
    s.endInitialising.notices.cantFault = s.notices.cantFault ∧
    s.endInitialising.notices.setupFault = s.notices.setupFault ∧
    s.endInitialising.notices.reversal = s.notices.reversal ∧
    s.endInitialising.notices.stopped = s.notices.stopped ∧
    s.endInitialising.notices.unannounced = s.notices.unannounced ∧
    s.endInitialising.notices.detail = s.notices.detail := by
  simp only [State.endInitialising] <;> (repeat' split) <;> simp

@[simp] theorem State.endInitialising_port_frame (s : State) :
    s.endInitialising.port.grant = s.port.grant ∧ s.endInitialising.port.access = s.port.access := by
  simp only [State.endInitialising] <;> (repeat' split) <;> simp

@[simp] theorem State.admitWaitingEnd_sheets_frame (s : State) :
    s.admitWaitingEnd.sheets.sheetCount = s.sheets.sheetCount ∧
    s.admitWaitingEnd.sheets.sheetSize = s.sheets.sheetSize ∧
    s.admitWaitingEnd.sheets.sheetBase = s.sheets.sheetBase ∧ s.admitWaitingEnd.sheets.runLost = s.sheets.runLost ∧
    s.admitWaitingEnd.sheets.freeSheets = s.sheets.freeSheets ∧
    s.admitWaitingEnd.sheets.filling = s.sheets.filling ∧
    s.admitWaitingEnd.sheets.closedSheets = s.sheets.closedSheets ∧
    s.admitWaitingEnd.sheets.sequence = s.sheets.sequence ∧ s.admitWaitingEnd.sheets.drain = s.sheets.drain ∧
    s.admitWaitingEnd.sheets.stopMode = s.sheets.stopMode ∧
    s.admitWaitingEnd.sheets.endWritten = s.sheets.endWritten := by
  simp only [State.admitWaitingEnd] <;> (repeat' split) <;> simp

@[simp] theorem State.admitWaitingEnd_notices_frame (s : State) :
    s.admitWaitingEnd.notices.fault = s.notices.fault ∧ s.admitWaitingEnd.notices.linkFault = s.notices.linkFault ∧
    s.admitWaitingEnd.notices.alerts = s.notices.alerts ∧
    s.admitWaitingEnd.notices.displaced = s.notices.displaced ∧
    s.admitWaitingEnd.notices.starved = s.notices.starved ∧
    s.admitWaitingEnd.notices.markerMismatch = s.notices.markerMismatch ∧
    s.admitWaitingEnd.notices.cantFault = s.notices.cantFault ∧
    s.admitWaitingEnd.notices.setupFault = s.notices.setupFault ∧
    s.admitWaitingEnd.notices.planTaken = s.notices.planTaken ∧
    s.admitWaitingEnd.notices.reversal = s.notices.reversal ∧
    s.admitWaitingEnd.notices.stopped = s.notices.stopped ∧
    s.admitWaitingEnd.notices.unannounced = s.notices.unannounced ∧
    s.admitWaitingEnd.notices.detail = s.notices.detail := by
  simp only [State.admitWaitingEnd] <;> (repeat' split) <;> simp

@[simp] theorem State.admitWaitingEnd_port_frame (s : State) :
    s.admitWaitingEnd.port.comparatorQueue = s.port.comparatorQueue ∧
    s.admitWaitingEnd.port.writerQueue = s.port.writerQueue ∧
    s.admitWaitingEnd.port.controlQueue = s.port.controlQueue ∧
    s.admitWaitingEnd.port.loaderQueue = s.port.loaderQueue ∧ s.admitWaitingEnd.port.grant = s.port.grant ∧
    s.admitWaitingEnd.port.access = s.port.access := by
  simp only [State.admitWaitingEnd] <;> (repeat' split) <;> simp

@[simp] theorem State.recordWritten_sheets_frame (s : State) :
    s.recordWritten.sheets.sheetCount = s.sheets.sheetCount ∧
    s.recordWritten.sheets.sheetSize = s.sheets.sheetSize ∧ s.recordWritten.sheets.sheetBase = s.sheets.sheetBase ∧
    s.recordWritten.sheets.runLost = s.sheets.runLost ∧
    s.recordWritten.sheets.closedSheets = s.sheets.closedSheets ∧
    s.recordWritten.sheets.stopMode = s.sheets.stopMode := by
  simp only [State.recordWritten] <;> (repeat' split) <;> simp

@[simp] theorem State.recordWritten_notices_frame (s : State) :
    s.recordWritten.notices.fault = s.notices.fault ∧ s.recordWritten.notices.linkFault = s.notices.linkFault ∧
    s.recordWritten.notices.alerts = s.notices.alerts ∧ s.recordWritten.notices.displaced = s.notices.displaced ∧
    s.recordWritten.notices.markerMismatch = s.notices.markerMismatch ∧
    s.recordWritten.notices.cantFault = s.notices.cantFault ∧
    s.recordWritten.notices.setupFault = s.notices.setupFault ∧
    s.recordWritten.notices.planTaken = s.notices.planTaken ∧
    s.recordWritten.notices.reversal = s.notices.reversal ∧ s.recordWritten.notices.stopped = s.notices.stopped ∧
    s.recordWritten.notices.unannounced = s.notices.unannounced ∧
    s.recordWritten.notices.detail = s.notices.detail := by
  simp only [State.recordWritten] <;> (repeat' split) <;> simp

@[simp] theorem State.recordWritten_port_frame (s : State) :
    s.recordWritten.port.grant = s.port.grant ∧ s.recordWritten.port.access = s.port.access := by
  simp only [State.recordWritten] <;> (repeat' split) <;> simp

@[simp] theorem State.stopWritten_sweep_frame (s : State) :
    s.stopWritten.sweep.intake = s.sweep.intake ∧ s.stopWritten.sweep.receiver = s.sweep.receiver ∧
    s.stopWritten.sweep.bufferA = s.sweep.bufferA ∧ s.stopWritten.sweep.bufferB = s.sweep.bufferB ∧
    s.stopWritten.sweep.current = s.sweep.current ∧ s.stopWritten.sweep.handover = s.sweep.handover ∧
    s.stopWritten.sweep.lastGood = s.sweep.lastGood ∧ s.stopWritten.sweep.markTimer = s.sweep.markTimer ∧
    s.stopWritten.sweep.latch = s.sweep.latch ∧ s.stopWritten.sweep.runFaults = s.sweep.runFaults := by
  simp only [State.stopWritten] <;> (repeat' split) <;> simp

@[simp] theorem State.stopWritten_control_frame (s : State) :
    s.stopWritten.control.startPhase = s.control.startPhase ∧
    s.stopWritten.control.planOffset = s.control.planOffset ∧ s.stopWritten.control.geometry = s.control.geometry ∧
    s.stopWritten.control.lastKind = s.control.lastKind ∧ s.stopWritten.control.lastResult = s.control.lastResult ∧
    s.stopWritten.control.area = s.control.area ∧
    s.stopWritten.control.interruptEnable = s.control.interruptEnable := by
  simp only [State.stopWritten] <;> (repeat' split) <;> simp

@[simp] theorem State.stopWritten_chainage_frame (s : State) :
    s.stopWritten.chainage.chainage = s.chainage.chainage ∧ s.stopWritten.chainage.peak = s.chainage.peak ∧
    s.stopWritten.chainage.tracker = s.chainage.tracker ∧
    s.stopWritten.chainage.lineReference = s.chainage.lineReference := by
  simp only [State.stopWritten] <;> (repeat' split) <;> simp

@[simp] theorem State.stopWritten_loader_frame (s : State) :
    s.stopWritten.loader.calibration = s.loader.calibration ∧
    s.stopWritten.loader.calibrationWords = s.loader.calibrationWords := by
  simp only [State.stopWritten] <;> (repeat' split) <;> simp

@[simp] theorem State.stopWritten_sheets_frame (s : State) :
    s.stopWritten.sheets.sheetCount = s.sheets.sheetCount ∧ s.stopWritten.sheets.sheetSize = s.sheets.sheetSize ∧
    s.stopWritten.sheets.sheetBase = s.sheets.sheetBase ∧ s.stopWritten.sheets.queue = s.sheets.queue ∧
    s.stopWritten.sheets.lost = s.sheets.lost ∧ s.stopWritten.sheets.runLost = s.sheets.runLost ∧
    s.stopWritten.sheets.sequence = s.sheets.sequence ∧ s.stopWritten.sheets.stopMode = s.sheets.stopMode ∧
    s.stopWritten.sheets.endWaiting = s.sheets.endWaiting := by
  simp only [State.stopWritten] <;> (repeat' split) <;> simp

@[simp] theorem State.stopWritten_notices_frame (s : State) :
    s.stopWritten.notices.fault = s.notices.fault ∧ s.stopWritten.notices.linkFault = s.notices.linkFault ∧
    s.stopWritten.notices.alerts = s.notices.alerts ∧ s.stopWritten.notices.displaced = s.notices.displaced ∧
    s.stopWritten.notices.starved = s.notices.starved ∧
    s.stopWritten.notices.markerMismatch = s.notices.markerMismatch ∧
    s.stopWritten.notices.cantFault = s.notices.cantFault ∧
    s.stopWritten.notices.setupFault = s.notices.setupFault ∧
    s.stopWritten.notices.planTaken = s.notices.planTaken ∧ s.stopWritten.notices.reversal = s.notices.reversal ∧
    s.stopWritten.notices.unannounced = s.notices.unannounced ∧
    s.stopWritten.notices.detail = s.notices.detail := by
  simp only [State.stopWritten] <;> (repeat' split) <;> simp

@[simp] theorem State.stopWritten_port_frame (s : State) :
    s.stopWritten.port.comparatorQueue = s.port.comparatorQueue ∧
    s.stopWritten.port.writerQueue = s.port.writerQueue ∧ s.stopWritten.port.controlQueue = s.port.controlQueue ∧
    s.stopWritten.port.loaderQueue = s.port.loaderQueue ∧ s.stopWritten.port.grant = s.port.grant ∧
    s.stopWritten.port.access = s.port.access := by
  simp only [State.stopWritten] <;> (repeat' split) <;> simp

@[simp] theorem State.beginHeld_sweep_frame (s : State) :
    s.beginHeld.sweep.intake = s.sweep.intake ∧ s.beginHeld.sweep.receiver = s.sweep.receiver ∧
    s.beginHeld.sweep.bufferA = s.sweep.bufferA ∧ s.beginHeld.sweep.bufferB = s.sweep.bufferB ∧
    s.beginHeld.sweep.current = s.sweep.current ∧ s.beginHeld.sweep.handover = s.sweep.handover ∧
    s.beginHeld.sweep.lastGood = s.sweep.lastGood ∧ s.beginHeld.sweep.markTimer = s.sweep.markTimer ∧
    s.beginHeld.sweep.latch = s.sweep.latch ∧ s.beginHeld.sweep.runFaults = s.sweep.runFaults := by
  simp only [State.beginHeld] <;> (repeat' split) <;> simp

@[simp] theorem State.beginHeld_control_frame (s : State) :
    s.beginHeld.control.startPhase = s.control.startPhase ∧ s.beginHeld.control.planOffset = s.control.planOffset ∧
    s.beginHeld.control.geometry = s.control.geometry ∧ s.beginHeld.control.lastKind = s.control.lastKind ∧
    s.beginHeld.control.lastResult = s.control.lastResult ∧ s.beginHeld.control.area = s.control.area ∧
    s.beginHeld.control.interruptEnable = s.control.interruptEnable := by
  simp only [State.beginHeld] <;> (repeat' split) <;> simp

@[simp] theorem State.beginHeld_chainage_frame (s : State) :
    s.beginHeld.chainage.chainage = s.chainage.chainage ∧ s.beginHeld.chainage.peak = s.chainage.peak ∧
    s.beginHeld.chainage.tracker = s.chainage.tracker ∧
    s.beginHeld.chainage.lineReference = s.chainage.lineReference := by
  simp only [State.beginHeld] <;> (repeat' split) <;> simp

@[simp] theorem State.beginHeld_loader_frame (s : State) :
    s.beginHeld.loader.calibration = s.loader.calibration ∧
    s.beginHeld.loader.calibrationWords = s.loader.calibrationWords := by
  simp only [State.beginHeld] <;> (repeat' split) <;> simp

@[simp] theorem State.beginHeld_sheets_frame (s : State) :
    s.beginHeld.sheets.sheetCount = s.sheets.sheetCount ∧ s.beginHeld.sheets.sheetSize = s.sheets.sheetSize ∧
    s.beginHeld.sheets.sheetBase = s.sheets.sheetBase ∧ s.beginHeld.sheets.queue = s.sheets.queue ∧
    s.beginHeld.sheets.lost = s.sheets.lost ∧ s.beginHeld.sheets.runLost = s.sheets.runLost ∧
    s.beginHeld.sheets.sequence = s.sheets.sequence ∧ s.beginHeld.sheets.stopMode = s.sheets.stopMode ∧
    s.beginHeld.sheets.endWaiting = s.sheets.endWaiting := by
  simp only [State.beginHeld] <;> (repeat' split) <;> simp

@[simp] theorem State.beginHeld_notices_frame (s : State) :
    s.beginHeld.notices.fault = s.notices.fault ∧ s.beginHeld.notices.linkFault = s.notices.linkFault ∧
    s.beginHeld.notices.alerts = s.notices.alerts ∧ s.beginHeld.notices.displaced = s.notices.displaced ∧
    s.beginHeld.notices.starved = s.notices.starved ∧
    s.beginHeld.notices.markerMismatch = s.notices.markerMismatch ∧
    s.beginHeld.notices.cantFault = s.notices.cantFault ∧ s.beginHeld.notices.setupFault = s.notices.setupFault ∧
    s.beginHeld.notices.planTaken = s.notices.planTaken ∧ s.beginHeld.notices.reversal = s.notices.reversal ∧
    s.beginHeld.notices.unannounced = s.notices.unannounced ∧ s.beginHeld.notices.detail = s.notices.detail := by
  simp only [State.beginHeld] <;> (repeat' split) <;> simp

@[simp] theorem State.beginHeld_port_frame (s : State) :
    s.beginHeld.port.grant = s.port.grant ∧ s.beginHeld.port.access = s.port.access := by
  simp only [State.beginHeld] <;> (repeat' split) <;> simp

@[simp] theorem State.closeWritten_sweep_frame (s : State) :
    s.closeWritten.sweep.intake = s.sweep.intake ∧ s.closeWritten.sweep.receiver = s.sweep.receiver ∧
    s.closeWritten.sweep.bufferA = s.sweep.bufferA ∧ s.closeWritten.sweep.bufferB = s.sweep.bufferB ∧
    s.closeWritten.sweep.current = s.sweep.current ∧ s.closeWritten.sweep.handover = s.sweep.handover ∧
    s.closeWritten.sweep.lastGood = s.sweep.lastGood ∧ s.closeWritten.sweep.markTimer = s.sweep.markTimer ∧
    s.closeWritten.sweep.latch = s.sweep.latch ∧ s.closeWritten.sweep.runFaults = s.sweep.runFaults := by
  simp only [State.closeWritten] <;> (repeat' split) <;> simp

@[simp] theorem State.closeWritten_control_frame (s : State) :
    s.closeWritten.control.startPhase = s.control.startPhase ∧
    s.closeWritten.control.planOffset = s.control.planOffset ∧
    s.closeWritten.control.geometry = s.control.geometry ∧ s.closeWritten.control.lastKind = s.control.lastKind ∧
    s.closeWritten.control.lastResult = s.control.lastResult ∧ s.closeWritten.control.area = s.control.area ∧
    s.closeWritten.control.interruptEnable = s.control.interruptEnable := by
  simp only [State.closeWritten] <;> (repeat' split) <;> simp

@[simp] theorem State.closeWritten_chainage_frame (s : State) :
    s.closeWritten.chainage.chainage = s.chainage.chainage ∧ s.closeWritten.chainage.peak = s.chainage.peak ∧
    s.closeWritten.chainage.tracker = s.chainage.tracker ∧
    s.closeWritten.chainage.lineReference = s.chainage.lineReference := by
  simp only [State.closeWritten] <;> (repeat' split) <;> simp

@[simp] theorem State.closeWritten_loader_frame (s : State) :
    s.closeWritten.loader.calibration = s.loader.calibration ∧
    s.closeWritten.loader.calibrationWords = s.loader.calibrationWords := by
  simp only [State.closeWritten] <;> (repeat' split) <;> simp

@[simp] theorem State.closeWritten_sheets_frame (s : State) :
    s.closeWritten.sheets.sheetCount = s.sheets.sheetCount ∧ s.closeWritten.sheets.sheetSize = s.sheets.sheetSize ∧
    s.closeWritten.sheets.sheetBase = s.sheets.sheetBase ∧ s.closeWritten.sheets.queue = s.sheets.queue ∧
    s.closeWritten.sheets.lost = s.sheets.lost ∧ s.closeWritten.sheets.runLost = s.sheets.runLost ∧
    s.closeWritten.sheets.stopMode = s.sheets.stopMode ∧
    s.closeWritten.sheets.endWaiting = s.sheets.endWaiting := by
  simp only [State.closeWritten] <;> (repeat' split) <;> simp

@[simp] theorem State.closeWritten_notices_frame (s : State) :
    s.closeWritten.notices.fault = s.notices.fault ∧ s.closeWritten.notices.linkFault = s.notices.linkFault ∧
    s.closeWritten.notices.alerts = s.notices.alerts ∧ s.closeWritten.notices.displaced = s.notices.displaced ∧
    s.closeWritten.notices.markerMismatch = s.notices.markerMismatch ∧
    s.closeWritten.notices.cantFault = s.notices.cantFault ∧
    s.closeWritten.notices.setupFault = s.notices.setupFault ∧
    s.closeWritten.notices.planTaken = s.notices.planTaken ∧ s.closeWritten.notices.reversal = s.notices.reversal ∧
    s.closeWritten.notices.detail = s.notices.detail := by
  simp only [State.closeWritten] <;> (repeat' split) <;> simp

@[simp] theorem State.closeWritten_port_frame (s : State) :
    s.closeWritten.port.grant = s.port.grant ∧ s.closeWritten.port.access = s.port.access := by
  simp only [State.closeWritten] <;> (repeat' split) <;> simp

@[simp] theorem State.endGrant_port_frame (s : State) (g : Grant) :
    (s.endGrant g).port.comparatorQueue = s.port.comparatorQueue ∧
    (s.endGrant g).port.writerQueue = s.port.writerQueue ∧ (s.endGrant g).port.controlQueue = s.port.controlQueue ∧
    (s.endGrant g).port.loaderQueue = s.port.loaderQueue ∧ (s.endGrant g).port.access = s.port.access := by
  simp only [State.endGrant] <;> (repeat' split) <;> simp

@[simp] theorem State.deliver_sweep_frame (s : State) (p : Purpose) (d : List Word) :
    (s.deliver p d).sweep.bufferA = s.sweep.bufferA ∧ (s.deliver p d).sweep.bufferB = s.sweep.bufferB ∧
    (s.deliver p d).sweep.current = s.sweep.current ∧ (s.deliver p d).sweep.handover = s.sweep.handover := by
  simp only [State.deliver] <;> (repeat' split) <;> simp

@[simp] theorem State.deliver_accumulator_frame (s : State) (p : Purpose) (d : List Word) :
    (s.deliver p d).accumulator.commit = s.accumulator.commit ∧
    (s.deliver p d).accumulator.evaluationOrder = s.accumulator.evaluationOrder := by
  simp only [State.deliver] <;> (repeat' split) <;> simp

@[simp] theorem State.deliver_comparator_frame (s : State) (p : Purpose) (d : List Word) :
    (s.deliver p d).comparator.bank = s.comparator.bank ∧ (s.deliver p d).comparator.rail = s.comparator.rail ∧
    (s.deliver p d).comparator.baselineUse = s.comparator.baselineUse ∧
    (s.deliver p d).comparator.deformLimit = s.comparator.deformLimit ∧
    (s.deliver p d).comparator.meanFloor = s.comparator.meanFloor ∧
    (s.deliver p d).comparator.mode = s.comparator.mode ∧
    (s.deliver p d).comparator.descriptor = s.comparator.descriptor ∧
    (s.deliver p d).comparator.nextSector = s.comparator.nextSector ∧
    (s.deliver p d).comparator.results = s.comparator.results ∧
    (s.deliver p d).comparator.deformCount = s.comparator.deformCount ∧
    (s.deliver p d).comparator.maxDeviation = s.comparator.maxDeviation := by
  simp only [State.deliver] <;> (repeat' split) <;> simp

@[simp] theorem State.deliver_control_frame (s : State) (p : Purpose) (d : List Word) :
    (s.deliver p d).control.planOffset = s.control.planOffset ∧
    (s.deliver p d).control.lastKind = s.control.lastKind ∧
    (s.deliver p d).control.lastResult = s.control.lastResult ∧ (s.deliver p d).control.area = s.control.area ∧
    (s.deliver p d).control.interruptEnable = s.control.interruptEnable := by
  simp only [State.deliver] <;> (repeat' split) <;> simp

@[simp] theorem State.deliver_notices_frame (s : State) (p : Purpose) (d : List Word) :
    (s.deliver p d).notices.fault = s.notices.fault ∧ (s.deliver p d).notices.alerts = s.notices.alerts ∧
    (s.deliver p d).notices.displaced = s.notices.displaced ∧
    (s.deliver p d).notices.markerMismatch = s.notices.markerMismatch ∧
    (s.deliver p d).notices.cantFault = s.notices.cantFault ∧
    (s.deliver p d).notices.reversal = s.notices.reversal ∧ (s.deliver p d).notices.detail = s.notices.detail := by
  simp only [State.deliver] <;> (repeat' split) <;> simp

@[simp] theorem State.deliver_port_frame (s : State) (p : Purpose) (d : List Word) :
    (s.deliver p d).port.grant = s.port.grant ∧ (s.deliver p d).port.access = s.port.access := by
  simp only [State.deliver] <;> (repeat' split) <;> simp

@[simp] theorem State.acceptStart_control_frame (s : State) (o : BitVec 24) :
    (s.acceptStart o).control.stopPhase = s.control.stopPhase ∧
    (s.acceptStart o).control.stopMode = s.control.stopMode ∧
    (s.acceptStart o).control.lastKind = s.control.lastKind ∧
    (s.acceptStart o).control.lastResult = s.control.lastResult ∧ (s.acceptStart o).control.area = s.control.area ∧
    (s.acceptStart o).control.interruptEnable = s.control.interruptEnable := by
  simp only [State.acceptStart] <;> (repeat' split) <;> simp

@[simp] theorem State.acceptStart_loader_frame (s : State) (o : BitVec 24) :
    (s.acceptStart o).loader.setX = s.loader.setX ∧ (s.acceptStart o).loader.setY = s.loader.setY ∧
    (s.acceptStart o).loader.load = s.loader.load := by
  simp only [State.acceptStart] <;> (repeat' split) <;> simp

@[simp] theorem State.acceptStart_port_frame (s : State) (o : BitVec 24) :
    (s.acceptStart o).port.grant = s.port.grant ∧ (s.acceptStart o).port.access = s.port.access := by
  simp only [State.acceptStart] <;> (repeat' split) <;> simp

@[simp] theorem State.acceptPlan_loader_frame (s : State) (o : BitVec 24) :
    (s.acceptPlan o).loader.calibration = s.loader.calibration := by
  simp only [State.acceptPlan] <;> (repeat' split) <;> simp

@[simp] theorem State.acceptPlan_notices_frame (s : State) (o : BitVec 24) :
    (s.acceptPlan o).notices.fault = s.notices.fault ∧ (s.acceptPlan o).notices.linkFault = s.notices.linkFault ∧
    (s.acceptPlan o).notices.alerts = s.notices.alerts ∧ (s.acceptPlan o).notices.displaced = s.notices.displaced ∧
    (s.acceptPlan o).notices.starved = s.notices.starved ∧
    (s.acceptPlan o).notices.markerMismatch = s.notices.markerMismatch ∧
    (s.acceptPlan o).notices.cantFault = s.notices.cantFault ∧
    (s.acceptPlan o).notices.planTaken = s.notices.planTaken ∧
    (s.acceptPlan o).notices.reversal = s.notices.reversal ∧ (s.acceptPlan o).notices.stopped = s.notices.stopped ∧
    (s.acceptPlan o).notices.unannounced = s.notices.unannounced ∧
    (s.acceptPlan o).notices.detail = s.notices.detail := by
  simp only [State.acceptPlan] <;> (repeat' split) <;> simp

@[simp] theorem State.acceptPlan_port_frame (s : State) (o : BitVec 24) :
    (s.acceptPlan o).port.access = s.port.access := by
  simp only [State.acceptPlan] <;> (repeat' split) <;> simp

@[simp] theorem State.endStarvation_sheets_frame (s : State) :
    s.endStarvation.sheets.sheetCount = s.sheets.sheetCount ∧
    s.endStarvation.sheets.sheetSize = s.sheets.sheetSize ∧ s.endStarvation.sheets.sheetBase = s.sheets.sheetBase ∧
    s.endStarvation.sheets.queue = s.sheets.queue ∧ s.endStarvation.sheets.lost = s.sheets.lost ∧
    s.endStarvation.sheets.runLost = s.sheets.runLost ∧
    s.endStarvation.sheets.closedSheets = s.sheets.closedSheets ∧
    s.endStarvation.sheets.stopMode = s.sheets.stopMode ∧ s.endStarvation.sheets.endWaiting = s.sheets.endWaiting ∧
    s.endStarvation.sheets.endWritten = s.sheets.endWritten := by
  simp only [State.endStarvation] <;> (repeat' split) <;> simp

@[simp] theorem State.endStarvation_notices_frame (s : State) :
    s.endStarvation.notices.fault = s.notices.fault ∧ s.endStarvation.notices.linkFault = s.notices.linkFault ∧
    s.endStarvation.notices.alerts = s.notices.alerts ∧ s.endStarvation.notices.displaced = s.notices.displaced ∧
    s.endStarvation.notices.markerMismatch = s.notices.markerMismatch ∧
    s.endStarvation.notices.cantFault = s.notices.cantFault ∧
    s.endStarvation.notices.setupFault = s.notices.setupFault ∧
    s.endStarvation.notices.planTaken = s.notices.planTaken ∧
    s.endStarvation.notices.reversal = s.notices.reversal ∧ s.endStarvation.notices.stopped = s.notices.stopped ∧
    s.endStarvation.notices.unannounced = s.notices.unannounced ∧
    s.endStarvation.notices.detail = s.notices.detail := by
  simp only [State.endStarvation] <;> (repeat' split) <;> simp

@[simp] theorem State.endStarvation_port_frame (s : State) :
    s.endStarvation.port.grant = s.port.grant ∧ s.endStarvation.port.access = s.port.access := by
  simp only [State.endStarvation] <;> (repeat' split) <;> simp

@[simp] theorem State.holdReturned_port_frame (s : State) (n : Nat) :
    (s.holdReturned n).port.grant = s.port.grant ∧ (s.holdReturned n).port.access = s.port.access := by
  simp only [State.holdReturned] <;> (repeat' split) <;> simp

@[simp] theorem State.acceptReturn_sheets_frame (s : State) (n : Nat) :
    (s.acceptReturn n).sheets.sheetCount = s.sheets.sheetCount ∧
    (s.acceptReturn n).sheets.sheetSize = s.sheets.sheetSize ∧
    (s.acceptReturn n).sheets.sheetBase = s.sheets.sheetBase ∧ (s.acceptReturn n).sheets.queue = s.sheets.queue ∧
    (s.acceptReturn n).sheets.lost = s.sheets.lost ∧ (s.acceptReturn n).sheets.runLost = s.sheets.runLost ∧
    (s.acceptReturn n).sheets.stopMode = s.sheets.stopMode ∧
    (s.acceptReturn n).sheets.endWaiting = s.sheets.endWaiting ∧
    (s.acceptReturn n).sheets.endWritten = s.sheets.endWritten := by
  simp only [State.acceptReturn] <;> (repeat' split) <;> simp

@[simp] theorem State.acceptReturn_notices_frame (s : State) (n : Nat) :
    (s.acceptReturn n).notices.fault = s.notices.fault ∧
    (s.acceptReturn n).notices.linkFault = s.notices.linkFault ∧
    (s.acceptReturn n).notices.alerts = s.notices.alerts ∧
    (s.acceptReturn n).notices.displaced = s.notices.displaced ∧
    (s.acceptReturn n).notices.markerMismatch = s.notices.markerMismatch ∧
    (s.acceptReturn n).notices.cantFault = s.notices.cantFault ∧
    (s.acceptReturn n).notices.setupFault = s.notices.setupFault ∧
    (s.acceptReturn n).notices.planTaken = s.notices.planTaken ∧
    (s.acceptReturn n).notices.reversal = s.notices.reversal ∧
    (s.acceptReturn n).notices.stopped = s.notices.stopped ∧
    (s.acceptReturn n).notices.detail = s.notices.detail := by
  simp only [State.acceptReturn] <;> (repeat' split) <;> simp

@[simp] theorem State.acceptReturn_port_frame (s : State) (n : Nat) :
    (s.acceptReturn n).port.grant = s.port.grant ∧ (s.acceptReturn n).port.access = s.port.access := by
  simp only [State.acceptReturn] <;> (repeat' split) <;> simp

@[simp] theorem State.judgeReturn_control_frame (s : State) (n : Nat) :
    (s.judgeReturn n).control.survey = s.control.survey ∧
    (s.judgeReturn n).control.startPhase = s.control.startPhase ∧
    (s.judgeReturn n).control.stopMode = s.control.stopMode ∧
    (s.judgeReturn n).control.planOffset = s.control.planOffset ∧
    (s.judgeReturn n).control.geometry = s.control.geometry ∧ (s.judgeReturn n).control.area = s.control.area ∧
    (s.judgeReturn n).control.interruptEnable = s.control.interruptEnable := by
  simp only [State.judgeReturn] <;> (repeat' split) <;> simp

@[simp] theorem State.judgeReturn_sheets_frame (s : State) (n : Nat) :
    (s.judgeReturn n).sheets.sheetCount = s.sheets.sheetCount ∧
    (s.judgeReturn n).sheets.sheetSize = s.sheets.sheetSize ∧
    (s.judgeReturn n).sheets.sheetBase = s.sheets.sheetBase ∧ (s.judgeReturn n).sheets.runLost = s.sheets.runLost ∧
    (s.judgeReturn n).sheets.stopMode = s.sheets.stopMode ∧
    (s.judgeReturn n).sheets.endWritten = s.sheets.endWritten := by
  simp only [State.judgeReturn] <;> (repeat' split) <;> simp

@[simp] theorem State.judgeReturn_notices_frame (s : State) (n : Nat) :
    (s.judgeReturn n).notices.fault = s.notices.fault ∧ (s.judgeReturn n).notices.linkFault = s.notices.linkFault ∧
    (s.judgeReturn n).notices.alerts = s.notices.alerts ∧
    (s.judgeReturn n).notices.displaced = s.notices.displaced ∧
    (s.judgeReturn n).notices.markerMismatch = s.notices.markerMismatch ∧
    (s.judgeReturn n).notices.cantFault = s.notices.cantFault ∧
    (s.judgeReturn n).notices.setupFault = s.notices.setupFault ∧
    (s.judgeReturn n).notices.planTaken = s.notices.planTaken ∧
    (s.judgeReturn n).notices.reversal = s.notices.reversal ∧
    (s.judgeReturn n).notices.stopped = s.notices.stopped ∧
    (s.judgeReturn n).notices.detail = s.notices.detail := by
  simp only [State.judgeReturn] <;> (repeat' split) <;> simp

@[simp] theorem State.judgeReturn_port_frame (s : State) (n : Nat) :
    (s.judgeReturn n).port.access = s.port.access := by
  simp only [State.judgeReturn] <;> (repeat' split) <;> simp

@[simp] theorem State.closeCutShort_accumulator_frame (s : State) :
    s.closeCutShort.accumulator.openingCounter = s.accumulator.openingCounter ∧
    s.closeCutShort.accumulator.commit = s.accumulator.commit := by
  simp only [State.closeCutShort] <;> (repeat' split) <;> simp

@[simp] theorem State.acceptStopFinish_sweep_frame (s : State) :
    s.acceptStopFinish.sweep.handover = s.sweep.handover ∧ s.acceptStopFinish.sweep.lastGood = s.sweep.lastGood ∧
    s.acceptStopFinish.sweep.latch = s.sweep.latch ∧ s.acceptStopFinish.sweep.runFaults = s.sweep.runFaults ∧
    s.acceptStopFinish.sweep.lastCommand = s.sweep.lastCommand := by
  simp only [State.acceptStopFinish] <;> (repeat' split) <;> simp

@[simp] theorem State.acceptStopFinish_cant_frame (s : State) :
    s.acceptStopFinish.cant.history = s.cant.history ∧ s.acceptStopFinish.cant.failures = s.cant.failures := by
  simp only [State.acceptStopFinish] <;> (repeat' split) <;> simp

@[simp] theorem State.acceptStopFinish_control_frame (s : State) :
    s.acceptStopFinish.control.startPhase = s.control.startPhase ∧
    s.acceptStopFinish.control.planOffset = s.control.planOffset ∧
    s.acceptStopFinish.control.geometry = s.control.geometry ∧
    s.acceptStopFinish.control.lastKind = s.control.lastKind ∧
    s.acceptStopFinish.control.lastResult = s.control.lastResult ∧
    s.acceptStopFinish.control.area = s.control.area ∧
    s.acceptStopFinish.control.interruptEnable = s.control.interruptEnable := by
  simp only [State.acceptStopFinish] <;> (repeat' split) <;> simp

@[simp] theorem State.acceptStopFinish_accumulator_frame (s : State) :
    s.acceptStopFinish.accumulator.commit = s.accumulator.commit := by
  simp only [State.acceptStopFinish] <;> (repeat' split) <;> simp

@[simp] theorem State.acceptStopFinish_loader_frame (s : State) :
    s.acceptStopFinish.loader.calibration = s.loader.calibration := by
  simp only [State.acceptStopFinish] <;> (repeat' split) <;> simp

@[simp] theorem State.acceptStopFinish_chainage_frame (s : State) :
    s.acceptStopFinish.chainage.chainage = s.chainage.chainage ∧
    s.acceptStopFinish.chainage.peak = s.chainage.peak ∧ s.acceptStopFinish.chainage.tracker = s.chainage.tracker ∧
    s.acceptStopFinish.chainage.lineReference = s.chainage.lineReference := by
  simp only [State.acceptStopFinish] <;> (repeat' split) <;> simp

@[simp] theorem State.acceptStopFinish_notices_frame (s : State) :
    s.acceptStopFinish.notices.fault = s.notices.fault ∧
    s.acceptStopFinish.notices.linkFault = s.notices.linkFault ∧
    s.acceptStopFinish.notices.alerts = s.notices.alerts ∧
    s.acceptStopFinish.notices.displaced = s.notices.displaced ∧
    s.acceptStopFinish.notices.markerMismatch = s.notices.markerMismatch ∧
    s.acceptStopFinish.notices.cantFault = s.notices.cantFault ∧
    s.acceptStopFinish.notices.reversal = s.notices.reversal ∧
    s.acceptStopFinish.notices.stopped = s.notices.stopped ∧
    s.acceptStopFinish.notices.unannounced = s.notices.unannounced ∧
    s.acceptStopFinish.notices.detail = s.notices.detail := by
  simp only [State.acceptStopFinish] <;> (repeat' split) <;> simp

@[simp] theorem State.acceptStopFinish_sheets_frame (s : State) :
    s.acceptStopFinish.sheets.sheetCount = s.sheets.sheetCount ∧
    s.acceptStopFinish.sheets.sheetSize = s.sheets.sheetSize ∧
    s.acceptStopFinish.sheets.sheetBase = s.sheets.sheetBase ∧
    s.acceptStopFinish.sheets.closedSheets = s.sheets.closedSheets ∧
    s.acceptStopFinish.sheets.endWaiting = s.sheets.endWaiting ∧
    s.acceptStopFinish.sheets.endWritten = s.sheets.endWritten := by
  simp only [State.acceptStopFinish] <;> (repeat' split) <;> simp

@[simp] theorem State.acceptStopFinish_port_frame (s : State) :
    s.acceptStopFinish.port.access = s.port.access := by
  simp only [State.acceptStopFinish] <;> (repeat' split) <;> simp

@[simp] theorem State.withdrawRecord_port_frame (s : State) :
    s.withdrawRecord.port.comparatorQueue = s.port.comparatorQueue ∧
    s.withdrawRecord.port.controlQueue = s.port.controlQueue ∧
    s.withdrawRecord.port.loaderQueue = s.port.loaderQueue ∧ s.withdrawRecord.port.access = s.port.access := by
  simp only [State.withdrawRecord] <;> (repeat' split) <;> simp

@[simp] theorem State.clearQueue_sheets_frame (s : State) :
    s.clearQueue.sheets.sheetCount = s.sheets.sheetCount ∧ s.clearQueue.sheets.sheetSize = s.sheets.sheetSize ∧
    s.clearQueue.sheets.sheetBase = s.sheets.sheetBase ∧ s.clearQueue.sheets.runLost = s.sheets.runLost ∧
    s.clearQueue.sheets.closedSheets = s.sheets.closedSheets ∧
    s.clearQueue.sheets.endWritten = s.sheets.endWritten := by
  simp only [State.clearQueue] <;> (repeat' split) <;> simp

@[simp] theorem State.clearQueue_notices_frame (s : State) :
    s.clearQueue.notices.fault = s.notices.fault ∧ s.clearQueue.notices.linkFault = s.notices.linkFault ∧
    s.clearQueue.notices.alerts = s.notices.alerts ∧ s.clearQueue.notices.displaced = s.notices.displaced ∧
    s.clearQueue.notices.markerMismatch = s.notices.markerMismatch ∧
    s.clearQueue.notices.cantFault = s.notices.cantFault ∧ s.clearQueue.notices.setupFault = s.notices.setupFault ∧
    s.clearQueue.notices.planTaken = s.notices.planTaken ∧ s.clearQueue.notices.reversal = s.notices.reversal ∧
    s.clearQueue.notices.stopped = s.notices.stopped ∧ s.clearQueue.notices.unannounced = s.notices.unannounced ∧
    s.clearQueue.notices.detail = s.notices.detail := by
  simp only [State.clearQueue] <;> (repeat' split) <;> simp

@[simp] theorem State.clearQueue_port_frame (s : State) :
    s.clearQueue.port.access = s.port.access := by
  simp only [State.clearQueue] <;> (repeat' split) <;> simp

@[simp] theorem State.dropWork_sweep_frame (s : State) :
    s.dropWork.sweep.lastGood = s.sweep.lastGood ∧ s.dropWork.sweep.latch = s.sweep.latch ∧
    s.dropWork.sweep.runFaults = s.sweep.runFaults ∧ s.dropWork.sweep.lastCommand = s.sweep.lastCommand := by
  simp only [State.dropWork] <;> (repeat' split) <;> simp

@[simp] theorem State.dropWork_chainage_frame (s : State) :
    s.dropWork.chainage.chainage = s.chainage.chainage ∧ s.dropWork.chainage.peak = s.chainage.peak ∧
    s.dropWork.chainage.tracker = s.chainage.tracker ∧
    s.dropWork.chainage.lineReference = s.chainage.lineReference := by
  simp only [State.dropWork] <;> (repeat' split) <;> simp

@[simp] theorem State.dropWork_cant_frame (s : State) :
    s.dropWork.cant.history = s.cant.history ∧ s.dropWork.cant.failures = s.cant.failures := by
  simp only [State.dropWork] <;> (repeat' split) <;> simp

@[simp] theorem State.dropWork_accumulator_frame (s : State) :
    s.dropWork.accumulator.openingCounter = s.accumulator.openingCounter := by
  simp only [State.dropWork] <;> (repeat' split) <;> simp

@[simp] theorem State.dropWork_evaluator_frame (s : State) :
    s.dropWork.evaluator.template = s.evaluator.template ∧ s.dropWork.evaluator.tolerance = s.evaluator.tolerance ∧
    s.dropWork.evaluator.warn = s.evaluator.warn ∧ s.dropWork.evaluator.blindLimit = s.evaluator.blindLimit ∧
    s.dropWork.evaluator.nextSector = s.evaluator.nextSector := by
  simp only [State.dropWork] <;> (repeat' split) <;> simp

@[simp] theorem State.dropWork_comparator_frame (s : State) :
    s.dropWork.comparator.baselineUse = s.comparator.baselineUse ∧
    s.dropWork.comparator.deformLimit = s.comparator.deformLimit ∧
    s.dropWork.comparator.meanFloor = s.comparator.meanFloor ∧ s.dropWork.comparator.mode = s.comparator.mode ∧
    s.dropWork.comparator.descriptor = s.comparator.descriptor ∧
    s.dropWork.comparator.condition = s.comparator.condition ∧
    s.dropWork.comparator.nextSector = s.comparator.nextSector := by
  simp only [State.dropWork] <;> (repeat' split) <;> simp

@[simp] theorem State.dropWork_loader_frame (s : State) :
    s.dropWork.loader.calibration = s.loader.calibration := by
  simp only [State.dropWork] <;> (repeat' split) <;> simp

@[simp] theorem State.dropWork_control_frame (s : State) :
    s.dropWork.control.survey = s.control.survey ∧ s.dropWork.control.startPhase = s.control.startPhase ∧
    s.dropWork.control.planOffset = s.control.planOffset ∧ s.dropWork.control.geometry = s.control.geometry ∧
    s.dropWork.control.lastKind = s.control.lastKind ∧ s.dropWork.control.lastResult = s.control.lastResult ∧
    s.dropWork.control.area = s.control.area ∧ s.dropWork.control.interruptEnable = s.control.interruptEnable := by
  simp only [State.dropWork] <;> (repeat' split) <;> simp

@[simp] theorem State.dropWork_sheets_frame (s : State) :
    s.dropWork.sheets.sheetCount = s.sheets.sheetCount ∧ s.dropWork.sheets.sheetSize = s.sheets.sheetSize ∧
    s.dropWork.sheets.sheetBase = s.sheets.sheetBase ∧ s.dropWork.sheets.runLost = s.sheets.runLost ∧
    s.dropWork.sheets.closedSheets = s.sheets.closedSheets ∧
    s.dropWork.sheets.endWritten = s.sheets.endWritten := by
  simp only [State.dropWork] <;> (repeat' split) <;> simp

@[simp] theorem State.dropWork_notices_frame (s : State) :
    s.dropWork.notices.fault = s.notices.fault ∧ s.dropWork.notices.linkFault = s.notices.linkFault ∧
    s.dropWork.notices.alerts = s.notices.alerts ∧ s.dropWork.notices.displaced = s.notices.displaced ∧
    s.dropWork.notices.markerMismatch = s.notices.markerMismatch ∧
    s.dropWork.notices.cantFault = s.notices.cantFault ∧ s.dropWork.notices.planTaken = s.notices.planTaken ∧
    s.dropWork.notices.reversal = s.notices.reversal ∧ s.dropWork.notices.stopped = s.notices.stopped ∧
    s.dropWork.notices.unannounced = s.notices.unannounced ∧ s.dropWork.notices.detail = s.notices.detail := by
  simp only [State.dropWork] <;> (repeat' split) <;> simp

@[simp] theorem State.dropWork_port_frame (s : State) :
    s.dropWork.port.access = s.port.access := by
  simp only [State.dropWork] <;> (repeat' split) <;> simp

@[simp] theorem State.escalateStop_sweep_frame (s : State) :
    s.escalateStop.sweep.lastGood = s.sweep.lastGood ∧ s.escalateStop.sweep.latch = s.sweep.latch ∧
    s.escalateStop.sweep.runFaults = s.sweep.runFaults ∧
    s.escalateStop.sweep.lastCommand = s.sweep.lastCommand := by
  simp only [State.escalateStop] <;> (repeat' split) <;> simp

@[simp] theorem State.escalateStop_chainage_frame (s : State) :
    s.escalateStop.chainage.chainage = s.chainage.chainage ∧ s.escalateStop.chainage.peak = s.chainage.peak ∧
    s.escalateStop.chainage.tracker = s.chainage.tracker ∧
    s.escalateStop.chainage.lineReference = s.chainage.lineReference := by
  simp only [State.escalateStop] <;> (repeat' split) <;> simp

@[simp] theorem State.escalateStop_cant_frame (s : State) :
    s.escalateStop.cant.history = s.cant.history ∧ s.escalateStop.cant.failures = s.cant.failures := by
  simp only [State.escalateStop] <;> (repeat' split) <;> simp

@[simp] theorem State.escalateStop_accumulator_frame (s : State) :
    s.escalateStop.accumulator.openingCounter = s.accumulator.openingCounter := by
  simp only [State.escalateStop] <;> (repeat' split) <;> simp

@[simp] theorem State.escalateStop_evaluator_frame (s : State) :
    s.escalateStop.evaluator.template = s.evaluator.template ∧
    s.escalateStop.evaluator.tolerance = s.evaluator.tolerance ∧ s.escalateStop.evaluator.warn = s.evaluator.warn ∧
    s.escalateStop.evaluator.blindLimit = s.evaluator.blindLimit ∧
    s.escalateStop.evaluator.nextSector = s.evaluator.nextSector := by
  simp only [State.escalateStop] <;> (repeat' split) <;> simp

@[simp] theorem State.escalateStop_comparator_frame (s : State) :
    s.escalateStop.comparator.baselineUse = s.comparator.baselineUse ∧
    s.escalateStop.comparator.deformLimit = s.comparator.deformLimit ∧
    s.escalateStop.comparator.meanFloor = s.comparator.meanFloor ∧
    s.escalateStop.comparator.mode = s.comparator.mode ∧
    s.escalateStop.comparator.descriptor = s.comparator.descriptor ∧
    s.escalateStop.comparator.condition = s.comparator.condition ∧
    s.escalateStop.comparator.nextSector = s.comparator.nextSector := by
  simp only [State.escalateStop] <;> (repeat' split) <;> simp

@[simp] theorem State.escalateStop_loader_frame (s : State) :
    s.escalateStop.loader.calibration = s.loader.calibration := by
  simp only [State.escalateStop] <;> (repeat' split) <;> simp

@[simp] theorem State.escalateStop_control_frame (s : State) :
    s.escalateStop.control.survey = s.control.survey ∧ s.escalateStop.control.startPhase = s.control.startPhase ∧
    s.escalateStop.control.planOffset = s.control.planOffset ∧
    s.escalateStop.control.geometry = s.control.geometry ∧ s.escalateStop.control.lastKind = s.control.lastKind ∧
    s.escalateStop.control.lastResult = s.control.lastResult ∧ s.escalateStop.control.area = s.control.area ∧
    s.escalateStop.control.interruptEnable = s.control.interruptEnable := by
  simp only [State.escalateStop] <;> (repeat' split) <;> simp

@[simp] theorem State.escalateStop_sheets_frame (s : State) :
    s.escalateStop.sheets.sheetCount = s.sheets.sheetCount ∧ s.escalateStop.sheets.sheetSize = s.sheets.sheetSize ∧
    s.escalateStop.sheets.sheetBase = s.sheets.sheetBase ∧ s.escalateStop.sheets.runLost = s.sheets.runLost ∧
    s.escalateStop.sheets.closedSheets = s.sheets.closedSheets ∧
    s.escalateStop.sheets.endWritten = s.sheets.endWritten := by
  simp only [State.escalateStop] <;> (repeat' split) <;> simp

@[simp] theorem State.escalateStop_notices_frame (s : State) :
    s.escalateStop.notices.fault = s.notices.fault ∧ s.escalateStop.notices.linkFault = s.notices.linkFault ∧
    s.escalateStop.notices.alerts = s.notices.alerts ∧ s.escalateStop.notices.displaced = s.notices.displaced ∧
    s.escalateStop.notices.markerMismatch = s.notices.markerMismatch ∧
    s.escalateStop.notices.cantFault = s.notices.cantFault ∧
    s.escalateStop.notices.planTaken = s.notices.planTaken ∧ s.escalateStop.notices.reversal = s.notices.reversal ∧
    s.escalateStop.notices.stopped = s.notices.stopped ∧
    s.escalateStop.notices.unannounced = s.notices.unannounced ∧
    s.escalateStop.notices.detail = s.notices.detail := by
  simp only [State.escalateStop] <;> (repeat' split) <;> simp

@[simp] theorem State.escalateStop_port_frame (s : State) :
    s.escalateStop.port.access = s.port.access := by
  simp only [State.escalateStop] <;> (repeat' split) <;> simp

end Sys2Proof.Machine
end

