-- ==== Sys2Proof/Laws/Blocks.lean ====
section
/-! SUPPORT. What the shared operations do to the numbered parts of the state (banks, buffers, plan sets) and to the output
queue, and where the end of an event brings nothing more about. Later proofs cite these and do not unfold the
operations. -/
namespace Sys2Proof.Machine

/-! ### States and blocks equal field by field -/

theorem State.eq_of_fields {s t : State} (h1 : s.sweep = t.sweep) (h2 : s.chainage = t.chainage) (h3 : s.cant = t.cant)
    (h4 : s.accumulator = t.accumulator) (h5 : s.evaluator = t.evaluator) (h6 : s.comparator = t.comparator)
    (h7 : s.loader = t.loader) (h8 : s.sheets = t.sheets) (h9 : s.notices = t.notices) (h10 : s.control = t.control)
    (h11 : s.port = t.port) (h12 : s.memory = t.memory) (h13 : s.lines = t.lines) (h14 : s.sent = t.sent)
    (h15 : s.hostRead = t.hostRead) (h16 : s.positionDue = t.positionDue) (h17 : s.freeIndex = t.freeIndex)
    (h18 : s.pending = t.pending) : s = t := by
  cases s; cases t; simp_all

theorem SectorAccumulator.eq_of_fields {a b : SectorAccumulator} (h1 : a.openingCounter = b.openingCounter)
    (h2 : a.commit = b.commit) (h3 : a.evaluationOrder = b.evaluationOrder) (h4 : a.bank0 = b.bank0)
    (h5 : a.bank1 = b.bank1) : a = b := by
  cases a; cases b; simp_all

theorem SweepPort.eq_of_fields {a b : SweepPort} (h1 : a.intake = b.intake) (h2 : a.receiver = b.receiver)
    (h3 : a.bufferA = b.bufferA) (h4 : a.bufferB = b.bufferB) (h5 : a.current = b.current)
    (h6 : a.handover = b.handover) (h7 : a.lastGood = b.lastGood) (h8 : a.markTimer = b.markTimer)
    (h9 : a.latch = b.latch) (h10 : a.runFaults = b.runFaults) (h11 : a.lastCommand = b.lastCommand) : a = b := by
  cases a; cases b; simp_all

theorem ChainageUnit.eq_of_fields {a b : ChainageUnit} (h1 : a.mode = b.mode) (h2 : a.chainage = b.chainage)
    (h3 : a.peak = b.peak) (h4 : a.tracker = b.tracker) (h5 : a.lineReference = b.lineReference)
    (h6 : a.openStation = b.openStation) (h7 : a.marker = b.marker) : a = b := by
  cases a; cases b; simp_all

theorem PlanLoader.eq_of_fields {a b : PlanLoader} (h1 : a.calibration = b.calibration)
    (h2 : a.calibrationWords = b.calibrationWords) (h3 : a.setX = b.setX) (h4 : a.setY = b.setY)
    (h5 : a.load = b.load) : a = b := by
  cases a; cases b; simp_all

theorem MemoryPort.eq_of_fields {a b : MemoryPort} (h1 : a.comparatorQueue = b.comparatorQueue)
    (h2 : a.writerQueue = b.writerQueue) (h3 : a.controlQueue = b.controlQueue) (h4 : a.loaderQueue = b.loaderQueue)
    (h5 : a.grant = b.grant) (h6 : a.access = b.access) : a = b := by
  cases a; cases b; simp_all

theorem SheetWriter.eq_of_fields {a b : SheetWriter} (h1 : a.sheetCount = b.sheetCount) (h2 : a.sheetSize = b.sheetSize)
    (h3 : a.sheetBase = b.sheetBase) (h4 : a.queue = b.queue) (h5 : a.lost = b.lost) (h6 : a.runLost = b.runLost)
    (h7 : a.freeSheets = b.freeSheets) (h8 : a.filling = b.filling) (h9 : a.closedSheets = b.closedSheets)
    (h10 : a.sequence = b.sequence) (h11 : a.drain = b.drain) (h12 : a.stopMode = b.stopMode)
    (h13 : a.endWaiting = b.endWaiting) (h14 : a.endWritten = b.endWritten) : a = b := by
  cases a; cases b; simp_all

/-! ### Banks, buffers and sets by number -/

theorem State.bank_setBank_if (s : State) (i j : BankId) (b : Bank) :
    (s.setBank i b).bank j = if j = i then b else s.bank j := by
  cases i <;> cases j <;> simp [State.bank, State.setBank]

theorem State.buffer_setBuffer_if (s : State) (i j : BufferId) (x : RevolutionBuffer) :
    (s.setBuffer i x).buffer j = if j = i then x else s.buffer j := by
  cases i <;> cases j <;> simp [State.buffer, State.setBuffer]

theorem State.planSet_setPlanSet_if (s : State) (i j : SetId) (p : PlanSet) :
    (s.setPlanSet i p).planSet j = if j = i then p else s.planSet j := by
  cases i <;> cases j <;> simp [State.planSet, State.setPlanSet]

theorem State.bank_of_accumulator {s t : State} (h : t.accumulator = s.accumulator) (i : BankId) :
    t.bank i = s.bank i := by
  cases i <;> simp [State.bank, h]

theorem State.buffer_of_sweep {s t : State} (h : t.sweep = s.sweep) (i : BufferId) : t.buffer i = s.buffer i := by
  cases i <;> simp [State.buffer, h]

theorem State.planSet_of_loader {s t : State} (h : t.loader = s.loader) (i : SetId) : t.planSet i = s.planSet i := by
  cases i <;> simp [State.planSet, h]

theorem State.holdsTag_of_bank {s t : State} (h : ∀ i, t.bank i = s.bank i) (g : Tag) : t.holdsTag g = s.holdsTag g := by
  simp [State.holdsTag, h]

theorem State.openBank_of_phase {s t : State} (h : ∀ i, (t.bank i).phase = (s.bank i).phase) : t.openBank = s.openBank := by
  have h0 := h .bank0
  have h1 := h .bank1
  simp only [State.bank] at h0 h1
  simp only [State.openBank, h0, h1]

theorem State.openBank_phase {s : State} {i : BankId} (h : s.openBank = some i) : (s.bank i).phase = .opened := by
  simp only [State.openBank] at h
  split at h
  · cases h; assumption
  · split at h
    · cases h; assumption
    · cases h

theorem State.activeSet_of_loader {s t : State} (h : t.loader = s.loader) : t.activeSet = s.activeSet := by
  simp [State.activeSet, h]

theorem State.activeTables_of_loader {s t : State} (h : t.loader = s.loader) : t.activeTables = s.activeTables := by
  simp only [State.activeTables, State.activeSet_of_loader h]
  split <;> simp [State.planSet_of_loader h]

/-- Once the words of the whole plan have arrived, all of its tables have been copied (R114). -/
theorem readArrived_of_whole (ws : List Word) (h : planLength ws / 4 ≤ ws.length) : readArrived ws = readPlan ws := by
  have e : planLength ws / 4 = 22 + 9 * zoneCount ws + 3 * bandCount ws + 128 * templateCount ws + 2 * markerCount ws := by
    simp only [planLength]; omega
  rw [e] at h
  simp only [readArrived, readPlan, zoneWord, bandWord, templateWord, markerWord]
  congr 1 <;> omega

/-! ### Discards and revolutions in hand (R61, R62) -/

theorem State.bankAfterDiscard_phase (s : State) (tag : Option Tag) (i : BankId) :
    (s.bankAfterDiscard tag i).phase = (s.bank i).phase := by
  simp only [State.bankAfterDiscard]
  (repeat' split) <;> rfl

theorem State.bankAfterDiscard_flags (s : State) (tag : Option Tag) (i : BankId) :
    (s.bankAfterDiscard tag i).flags = (s.bank i).flags := by
  simp only [State.bankAfterDiscard]
  (repeat' split) <;> rfl

theorem State.countDiscard_bank (s : State) (g : Tag) (j : BankId) :
    (s.countDiscard g).bank j =
      if j = g.bank ∧ s.holdsTag g = true ∧ (s.bank g.bank).phase ≠ .evaluating then
        { s.bank j with discarded := min 65535 ((s.bank j).discarded + 1) }
      else s.bank j := by
  simp only [State.countDiscard, saturatingSucc]
  by_cases h1 : s.holdsTag g = true <;> by_cases h2 : (s.bank g.bank).phase = .evaluating <;>
    by_cases h3 : j = g.bank <;> simp [h1, h2, h3, State.bank_setBank_if]

theorem State.countDiscard_holdsTag (s : State) (g k : Tag) : (s.countDiscard g).holdsTag k = s.holdsTag k := by
  have h : ∀ b : Bank, (if k.bank = g.bank ∧ s.holdsTag g = true ∧ (s.bank g.bank).phase ≠ .evaluating then
      { b with discarded := min 65535 (b.discarded + 1) } else b).phase = b.phase ∧
      (if k.bank = g.bank ∧ s.holdsTag g = true ∧ (s.bank g.bank).phase ≠ .evaluating then
      { b with discarded := min 65535 (b.discarded + 1) } else b).openingNumber = b.openingNumber := by
    intro b; split <;> exact ⟨rfl, rfl⟩
  have e := State.countDiscard_bank s g k.bank
  rw [State.holdsTag, State.holdsTag, e, (h _).1, (h _).2]

theorem State.dropInHand_bank (s : State) (g : Tag) (j : BankId) :
    (s.dropInHand g).bank j =
      if j = g.bank ∧ s.holdsTag g = true then { s.bank j with inHand := (s.bank j).inHand - 1 } else s.bank j := by
  simp only [State.dropInHand]
  by_cases h1 : s.holdsTag g = true <;> by_cases h3 : j = g.bank <;> simp [h1, h3, State.bank_setBank_if]

theorem State.reportDiscard_bank (s : State) (tag : Option Tag) (j : BankId) :
    (s.reportDiscard tag).bank j = s.bankAfterDiscard tag j := by
  cases tag with
  | none => rfl
  | some g =>
    simp only [State.reportDiscard, State.bankAfterDiscard, State.dropInHand_bank, State.countDiscard_bank,
      State.countDiscard_holdsTag]
    by_cases h1 : s.holdsTag g = true <;> by_cases h3 : j = g.bank <;> by_cases h2 : (s.bank j).phase = .evaluating <;>
      simp_all

theorem State.dropCurrent_bank (s : State) (n : Receiver) (j : BankId) : (s.dropCurrent n).bank j = s.bank j :=
  State.bank_of_accumulator (by simp) j

theorem State.bankAfterDiscard_of_bank {s t : State} (h : ∀ i, t.bank i = s.bank i) (tag : Option Tag) (i : BankId) :
    t.bankAfterDiscard tag i = s.bankAfterDiscard tag i := by
  simp only [State.bankAfterDiscard, h, State.holdsTag_of_bank h]

theorem State.discardCurrent_bank (s : State) (n : Receiver) (i : BankId) :
    (s.discardCurrent n).bank i = s.bankAfterDiscard (s.sweep.current.bind Revolution.tag) i := by
  simp only [State.discardCurrent]
  split
  · rename_i h; rw [h]; exact State.bank_of_accumulator rfl i
  · rename_i r h
    rw [State.reportDiscard_bank, State.bankAfterDiscard_of_bank (State.dropCurrent_bank s n), h]
    rfl

theorem State.discardCurrent_buffer (s : State) (n : Receiver) (i : BufferId) :
    (s.discardCurrent n).buffer i =
      if s.sweep.current.map Revolution.buffer = some i then { phase := .free, samples := [] } else s.buffer i := by
  simp only [State.discardCurrent]
  split
  · rename_i h; rw [h]; exact State.buffer_of_sweep rfl i
  · rename_i r h
    have e : ((s.dropCurrent n).reportDiscard r.tag).buffer i = (s.dropCurrent n).buffer i :=
      State.buffer_of_sweep (by simp) i
    rw [e, h]
    simp only [State.dropCurrent, h]
    cases hb : r.buffer <;> cases i <;>
      simp [hb, State.buffer, State.freeBuffer, State.setBuffer, RevolutionBuffer.reset]

theorem State.discardCurrent_sweep (s : State) (n : Receiver) :
    (s.discardCurrent n).sweep = { s.sweep with
      receiver := n, current := none, bufferA := (s.discardCurrent n).sweep.bufferA,
      bufferB := (s.discardCurrent n).sweep.bufferB } := by
  simp only [State.discardCurrent]
  split
  · rename_i h; simp [h]
  · rename_i r h; simp [State.dropCurrent, h]

theorem State.raiseInHand_bank (s : State) (tag : Option Tag) (j : BankId) :
    (s.raiseInHand tag).bank j =
      if tag.map Tag.bank = some j then { s.bank j with inHand := (s.bank j).inHand + 1 } else s.bank j := by
  cases tag with
  | none => simp [State.raiseInHand]
  | some g =>
    simp only [State.raiseInHand, State.bank_setBank_if, Option.map_some, Option.some.injEq]
    by_cases h : j = g.bank
    · simp [h]
    · rw [if_neg h, if_neg (fun e => h e.symm)]

/-! ### Where the end of an event brings nothing more about -/

theorem State.advanceEvaluation_eq (s : State) (h : s.EvaluationsBegun) : s.advanceEvaluation = s := by
  have e : s.evaluationRound = s := by
    simp only [State.evaluationRound]
    split
    · rfl
    · rename_i i rest ho
      have := h i (by simp [ho])
      split
      · rename_i hh; exact absurd hh.2 (this hh.1)
      · rfl
  simp only [State.advanceEvaluation, e]

theorem State.EvaluationsBegun.of_banks {s t : State} (h : s.EvaluationsBegun)
    (e : t.accumulator.evaluationOrder = s.accumulator.evaluationOrder)
    (ep : ∀ i, (t.bank i).phase = .closing → (s.bank i).phase = .closing)
    (eh : ∀ i, (t.bank i).phase = .closing → (s.bank i).inHand ≠ 0 → (t.bank i).inHand ≠ 0) : t.EvaluationsBegun := by
  intro i hi hp
  rw [e] at hi
  exact eh i hp (h i hi (ep i hp))

theorem State.EvaluationsBegun.discardCurrent {s : State} (h : s.EvaluationsBegun) (n : Receiver)
    (hc : s.NotOfClosing (s.sweep.current.bind Revolution.tag)) : (s.discardCurrent n).EvaluationsBegun := by
  apply h.of_banks
  · simp
  · intro i; rw [State.discardCurrent_bank, State.bankAfterDiscard_phase]; exact id
  · intro i hp hn
    rw [State.discardCurrent_bank] at hp ⊢
    rw [State.bankAfterDiscard_phase] at hp
    simp only [State.bankAfterDiscard]
    split
    · exact hn
    · rename_i g hg
      split
      · rename_i hh
        obtain ⟨rfl, h2⟩ := hh
        exact absurd hp (hc g hg h2)
      · exact hn

theorem State.arbitrate_eq (s : State) (h : s.port.access = .opened → s.port.grant = none → s.port.queuesEmpty) :
    s.arbitrate = s := by
  simp only [State.arbitrate]
  simp only [MemoryPort.queuesEmpty] at h
  cases ha : s.port.access <;> cases hg : s.port.grant <;> simp_all

theorem State.settle_eq (s : State) (h1 : s.positionDue = false) (h2 : s.control.survey ≠ .stopping)
    (h3 : s.port.access = .opened → s.port.grant = none → s.port.queuesEmpty) : s.settle = s := by
  simp only [State.settle, State.finishDraining, h2, false_and, if_false, State.flushPosition, h1]
  exact State.arbitrate_eq s h3

/-- An event that leaves the port as it is, calls for no position write and is not the end of a drain settles at once. -/
theorem State.Rested.settle_eq {s t : State} (h : s.Rested) (hs : t.control.survey ≠ .stopping)
    (e1 : t.positionDue = s.positionDue) (e2 : t.port = s.port) : t.settle = t := by
  apply State.settle_eq _ _ hs
  · rw [e2]; exact h.port.openedIsBusy
  · rw [e1]; exact h.settled

/-! ### Offers (R132, R133, R136) -/

theorem State.takeSheet_tally (s : State) : s.takeSheet.sheets.tally = s.sheets.tally := by
  simp [SheetWriter.tally]

theorem State.lookAtHead_tally (s : State) : s.lookAtHead.sheets.tally = s.sheets.tally := by
  simp [SheetWriter.tally]

theorem State.offer_tally (s : State) (r : Record) : (s.offer r).sheets.tally = s.sheets.tally.offer r := by
  have e : r.kind.refusedAt = if r.kind.isStation then 6 else 8 := rfl
  simp only [State.offer, State.admitRecord, Tally.offer, ← e, SheetWriter.tally, saturatingSucc]
  by_cases h : s.sheets.queue.length < r.kind.refusedAt
  · simp [h, State.enqueue]
  · simp [h]

/-- An offer calls for a write of the position block exactly where it admits a station-kind record (R132). -/
theorem State.offer_positionDue (s : State) (r : Record) :
    (s.offer r).positionDue = (s.positionDue || (r.kind.isStation && decide (s.sheets.queue.length < 6))) := by
  simp only [State.offer, State.admitRecord, RecordKind.refusedAt]
  by_cases hk : r.kind.isStation = true
  · by_cases h : s.sheets.queue.length < 6 <;> simp [hk, h, State.enqueue]
  · by_cases h : s.sheets.queue.length < 8 <;> simp [hk, h, State.enqueue]

/-! ### What an offer leaves as it was -/

/-- `t` is `s` but for the Sheet Writer, SHEET_STARVED, the Sheet Writer's bursts and a position write called for: all that
an offer can change before the event ends. -/
def State.WritesMore (s t : State) : Prop :=
  t = { s with
    sheets := t.sheets
    notices := { s.notices with starved := t.notices.starved }
    port := { s.port with writerQueue := t.port.writerQueue }
    positionDue := t.positionDue }

theorem State.WritesMore.refl (s : State) : s.WritesMore s := rfl

theorem State.WritesMore.trans {s t u : State} (h1 : s.WritesMore t) (h2 : t.WritesMore u) : s.WritesMore u := by
  unfold State.WritesMore at *
  rw [h2, h1]

theorem State.place_writesMore (s : State) (bs : List Burst) : s.WritesMore (s.place .writer bs) := by
  unfold State.WritesMore
  simp only [State.place]
  split <;> rfl

theorem State.beginRecord_writesMore (s : State) : s.WritesMore s.beginRecord := by
  simp only [State.beginRecord]
  split
  · refine State.WritesMore.trans ?_ (State.place_writesMore _ _)
    rfl
  · rfl

theorem State.beginClose_writesMore (s : State) : s.WritesMore s.beginClose := by
  simp only [State.beginClose]
  split
  · rfl
  · refine State.WritesMore.trans ?_ (State.place_writesMore _ _)
    rfl

theorem State.takeSheet_writesMore (s : State) : s.WritesMore s.takeSheet := by
  simp only [State.takeSheet]
  split
  · rfl
  · refine State.WritesMore.trans ?_ (State.place_writesMore _ _)
    rfl

theorem State.lookAtHead_writesMore (s : State) : s.WritesMore s.lookAtHead := by
  simp only [State.lookAtHead]
  (repeat' split) <;>
    first
    | exact State.takeSheet_writesMore s
    | exact State.beginRecord_writesMore s
    | exact State.beginClose_writesMore s
    | exact State.WritesMore.refl s

theorem State.offer_writesMore (s : State) (r : Record) : s.WritesMore (s.offer r) := by
  simp only [State.offer]
  split
  · refine State.WritesMore.trans (t := s.enqueue r) ?_ (State.lookAtHead_writesMore _)
    rfl
  · rfl

/-- Bursts placed join those of their requester (R175). -/
theorem State.place_writer_burstsOf (s : State) (bs : List Burst) (h : s.port.access = .opened) :
    (s.place .writer bs).port.burstsOf .writer = s.port.burstsOf .writer ++ bs := by
  simp [State.place, h, MemoryPort.burstsOf, MemoryPort.grantedTo]

/-- A grant loses no burst and changes no order (R176). -/
theorem State.arbitrate_burstsOf (s : State) (r : Requester) : s.arbitrate.port.burstsOf r = s.port.burstsOf r := by
  simp only [State.arbitrate]
  cases ha : s.port.access <;> cases hg : s.port.grant <;> simp only []
  cases hc : s.port.comparatorQueue <;> cases hw : s.port.writerQueue <;> cases hx : s.port.controlQueue <;>
    cases hl : s.port.loaderQueue <;> cases r <;>
    simp [MemoryPort.burstsOf, MemoryPort.grantedTo, Option.filter, *]

theorem State.arbitrate_positionBurst (s : State) : s.arbitrate.positionBurst = s.positionBurst := by
  have e : s.arbitrate = { s with port := s.arbitrate.port } := by
    simp only [State.arbitrate]
    (repeat' split) <;> rfl
  rw [e]; rfl

/-- The end of an event that is not the end of a drain makes the position write the event called for, with the values as they
then stand, and no other burst of Survey Control's (R172). -/
theorem State.settle_control {t : State} (hs : t.control.survey ≠ .stopping) (ha : t.port.access = .opened) :
    t.settle.port.burstsOf .control =
      if t.positionDue = true then t.port.withPosition t.settle.positionBurst else t.port.burstsOf .control := by
  have e : t.settle = t.flushPosition.arbitrate := by
    simp only [State.settle, State.finishDraining, hs, false_and, if_false]
  rw [e, State.arbitrate_burstsOf, State.arbitrate_positionBurst]
  cases hd : t.positionDue
  · simp [State.flushPosition, hd]
  · simp only [State.flushPosition, hd, ha, if_true]
    rfl

theorem State.Rested.settle_eq_of_writesMore {s t : State} (h : s.Rested) (hs : s.control.survey ≠ .stopping)
    (hw : s.WritesMore t) :
    t.settle = { s with
      sheets := t.settle.sheets
      notices := { s.notices with starved := t.settle.notices.starved }
      port := { s.port with
        writerQueue := t.settle.port.writerQueue, controlQueue := t.settle.port.controlQueue
        grant := t.settle.port.grant } } := by
  have hq := h.port.openedIsBusy
  have hd : s.positionDue = false := h.settled
  unfold State.WritesMore at hw
  rw [hw]
  generalize t.sheets = a at *
  generalize t.notices.starved = b at *
  generalize t.port.writerQueue = c at *
  generalize t.positionDue = d at *
  clear hw
  simp only [MemoryPort.queuesEmpty] at hq
  simp only [State.settle, State.finishDraining, hs, false_and, if_false, State.flushPosition]
  cases d <;> cases ha : s.port.access <;> cases hg : s.port.grant <;>
    simp only [Bool.false_eq_true, if_true, if_false, State.arbitrate] <;> simp [ha, hg] at hq ⊢
  all_goals (try obtain ⟨q1, q2, q3, q4⟩ := hq)
  all_goals (try simp only [q1, q3, q4])
  all_goals
    (cases c <;> (try simp only [replacePosition, List.any_nil, Bool.false_eq_true, if_false, List.nil_append]) <;>
      (try exact hd) <;>
      (apply State.eq_of_fields <;> simp [hd]))

/-- After offers alone, the end of the event brings about the position write, where a station-kind record was admitted, and
the grant, and nothing else. -/
theorem State.Rested.settle_writesMore {s t : State} (h : s.Rested) (hs : s.control.survey ≠ .stopping)
    (hf : s.control.survey ≠ .faulted) (hw : s.WritesMore t) :
    s.SameButForWriting t.settle (t.positionDue = true) := by
  have ha : s.port.access = .opened := by
    cases ha : s.port.access
    · rfl
    · exact absurd (h.port.shutIffFaulted.1 ha) hf
  have hc : t.control = s.control := by
    unfold State.WritesMore at hw; rw [hw]
  have hp : t.port = { s.port with writerQueue := t.port.writerQueue } := by
    unfold State.WritesMore at hw; exact congrArg (fun x => x.port) hw
  have ec := State.settle_control (t := t) (hc ▸ hs) (by rw [hp]; exact ha)
  refine ⟨h.settle_eq_of_writesMore hs hw, fun hd => ?_, fun hd => ?_⟩
  · rw [ec, if_pos hd, hp]; rfl
  · rw [ec, if_neg hd, hp]; rfl

theorem State.settle_tally {s : State} (hs : s.control.survey ≠ .stopping) :
    s.settle.sheets.tally = s.sheets.tally := by
  simp only [SheetWriter.tally, State.settle]
  simp [State.finishDraining, hs]

/-! ### What the Sheet Writer begins, and the bursts it places (R136 to R140) -/

theorem writeBursts_eq (purpose : Purpose) (offset : Nat) (ws : List Word) : ∀ n, n = burstCount ws →
    writeBursts purpose offset ws n = (List.range n).map (fun k =>
      { offset := offset + 64 * k, transfer := .write ((ws.drop (16 * k)).take 16), purpose := purpose }) := by
  intro n
  induction n generalizing offset ws with
  | zero => intro _; rfl
  | succ n ih =>
    intro h
    cases ws with
    | nil => simp [burstCount] at h
    | cons w ws =>
      have hn : n = burstCount ((w :: ws).drop 16) := by
        simp only [burstCount, List.length_cons, List.length_drop] at h ⊢; omega
      rw [List.range_succ_eq_map]
      simp only [writeBursts, ih _ _ hn, List.map_cons, List.map_map, Nat.mul_zero, Nat.add_zero, List.drop_zero]
      congr 1
      apply List.map_congr_left
      intro k _
      simp only [Function.comp, Nat.succ_eq_add_one, List.drop_drop, Burst.mk.injEq, Transfer.write.injEq, and_true]
      exact ⟨by omega, by congr 2; omega⟩

theorem State.recordBursts_eq (s : State) (f : Filling) (q : Queued) :
    writeBursts .record (s.sheetOffset f.sheet f.writeOffset) q.words (burstCount q.words) = s.sheets.recordBursts f q :=
  writeBursts_eq _ _ _ _ rfl

/-- What R136 does in READY, in the terms of the statements. -/
theorem State.lookAtHead_eq (s : State) (h : s.sheets.drain = .ready) :
    s.lookAtHead =
      ({ s with
        sheets := (s.sheets.looksAtHead s.activeGeneration).1
        notices := { s.notices with
          starved := if (s.sheets.looksAtHead s.activeGeneration).1.drain = Drain.starved then
              some (BitVec.ofNat 32 s.sheets.queue.length) else s.notices.starved } }).place .writer
        (s.sheets.looksAtHead s.activeGeneration).2 := by
  cases hq : s.sheets.queue with
  | nil =>
    have hw : s.sheets.looksAtHead s.activeGeneration = (s.sheets, []) := by
      cases hw : s.sheets; simp_all [SheetWriter.looksAtHead]
    rw [hw]
    simp [State.lookAtHead, h, hq, State.place]
    split <;> rfl
  | cons q rest =>
    cases hf : s.sheets.filling with
    | none =>
      cases hk : s.sheets.freeSheets with
      | nil =>
        simp [State.lookAtHead, SheetWriter.looksAtHead, h, hq, hf, hk, State.takeSheet, State.raiseStarved, State.place,
          natWord]
        split <;> rfl
      | cons k ks =>
        have active (w : SheetWriter) : ({ s with sheets := w }).activeGeneration = s.activeGeneration := rfl
        simp [State.lookAtHead, SheetWriter.looksAtHead, h, hq, hf, hk, State.takeSheet, nextSequence, sheetHeaderWords,
          State.sheetOffset, SheetWriter.openingBursts, rosterBurst, RosterCode.number, natWord, active]
    | some f =>
      by_cases fits : f.writeOffset + 4 * (2 + q.record.body.length) ≤ s.sheets.sheetSize
      · simp [State.lookAtHead, SheetWriter.looksAtHead, h, hq, hf, Record.length, fits, State.beginRecord,
          State.recordBursts_eq]
      · simp [State.lookAtHead, SheetWriter.looksAtHead, h, hq, hf, Record.length, fits, State.beginClose, State.sheetOffset,
          SheetWriter.closingBursts, rosterBurst, RosterCode.number, natWord]

end Sys2Proof.Machine
end

