-- ==== Sys2Proof/Laws/Memory.lean ====
section
/-! SUPPORT. The laws of the survey memory's record: a byte written reads back, every other byte stands, and every
operation keeps the canonical form. -/
namespace Sys2Proof.Machine

theorem Memory.read_nil (a : Nat) : Memory.read [] a = none := rfl

theorem Memory.read_write (m : Memory) (a k : Nat) (b : Byte) :
    (m.write a b).read k = if k = a then some b else m.read k := by
  induction m with
  | nil =>
    simp only [Memory.write, Memory.read, eq_comm]
  | cons cell rest ih =>
    obtain ⟨j, c⟩ := cell
    by_cases hlt : a < j
    · simp only [Memory.write, hlt, if_true, Memory.read, eq_comm (a := a)]
    · by_cases he : a = j
      · subst he
        by_cases hk : k = a
        · subst hk; simp [Memory.write, Memory.read]
        · simp [Memory.write, Memory.read, hk, Ne.symm hk]
      · by_cases hk : j = k
        · subst hk; simp [Memory.write, Memory.read, hlt, he, Ne.symm he]
        · simp only [Memory.write, hlt, he, if_false, Memory.read, hk, ih]

theorem Memory.read_write_same (m : Memory) (a : Nat) (b : Byte) : (m.write a b).read a = some b := by
  simp [Memory.read_write]

theorem Memory.read_write_other (m : Memory) {a k : Nat} (b : Byte) (h : k ≠ a) : (m.write a b).read k = m.read k := by
  simp [Memory.read_write, h]

/-- A run of bytes written: inside the run the byte at its place, outside it the byte there before. -/
theorem Memory.read_writeBytes (m : Memory) (a k : Nat) (bs : List Byte) :
    (m.writeBytes a bs).read k = if a ≤ k ∧ k < a + bs.length then bs[k - a]? else m.read k := by
  induction bs generalizing m a with
  | nil => rw [if_neg (by simp only [List.length_nil]; omega)]; rfl
  | cons b rest ih =>
    rw [Memory.writeBytes, ih, Memory.read_write]
    by_cases h : k = a
    · subst h
      rw [if_neg (by omega), if_pos rfl, if_pos (by simp only [List.length_cons]; omega), Nat.sub_self,
        List.getElem?_cons_zero]
    · by_cases h' : a + 1 ≤ k ∧ k < a + 1 + rest.length
      · have e : k - a = (k - (a + 1)) + 1 := by omega
        rw [if_pos h', if_pos (by simp only [List.length_cons]; omega), e, List.getElem?_cons_succ]
      · rw [if_neg h', if_neg h, if_neg (by rw [List.length_cons]; omega)]

theorem wordBytes_length (w : Word) : (wordBytes w).length = 4 := rfl

theorem flatMap_wordBytes_length (ws : List Word) : (ws.flatMap wordBytes).length = 4 * ws.length := by
  induction ws with
  | nil => rfl
  | cons w rest ih => simp only [List.flatMap_cons, List.length_append, ih, wordBytes_length, List.length_cons]; omega

theorem Memory.read_writeWords_outside (m : Memory) (a k : Nat) (ws : List Word) (h : k < a ∨ a + 4 * ws.length ≤ k) :
    (m.writeWords a ws).read k = m.read k := by
  rw [Memory.writeWords, Memory.read_writeBytes, flatMap_wordBytes_length, if_neg (by omega)]

/-- The canonical form, said of the addresses: each is below the next. -/
theorem Memory.wf_cons (k : Nat) (b : Byte) (rest : Memory) :
    Memory.wf ((k, b) :: rest) = true ↔ (∀ c ∈ rest.head?, k < c.1) ∧ Memory.wf rest = true := by
  cases rest with
  | nil => simp [Memory.wf]
  | cons cell rest => obtain ⟨l, c⟩ := cell; simp [Memory.wf]

theorem Memory.head_write (m : Memory) (a k : Nat) (b : Byte) (hk : k < a) (h : ∀ c ∈ m.head?, k < c.1) :
    ∀ c ∈ (m.write a b).head?, k < c.1 := by
  cases m with
  | nil => simp [Memory.write, hk]
  | cons cell rest =>
    obtain ⟨j, c⟩ := cell
    simp only [List.head?_cons, Option.mem_def, Option.some.injEq, forall_eq'] at h
    simp only [Memory.write]
    split
    · simpa using hk
    · split <;> simp_all

theorem Memory.wf_write (m : Memory) (a : Nat) (b : Byte) (h : m.wf = true) : (m.write a b).wf = true := by
  induction m with
  | nil => rfl
  | cons cell rest ih =>
    obtain ⟨j, c⟩ := cell
    have hj := (Memory.wf_cons j c rest).1 h
    simp only [Memory.write]
    split
    · rename_i hlt
      exact (Memory.wf_cons a b _).2 ⟨by simpa using hlt, h⟩
    · split
      · rename_i he; subst he
        exact (Memory.wf_cons a b rest).2 hj
      · rename_i hge hne
        exact (Memory.wf_cons j c _).2 ⟨Memory.head_write rest a j b (by omega) hj.1, ih hj.2⟩

theorem Memory.wf_writeBytes (m : Memory) (a : Nat) (bs : List Byte) (h : m.wf = true) :
    (m.writeBytes a bs).wf = true := by
  induction bs generalizing m a with
  | nil => exact h
  | cons b rest ih => exact ih _ _ (Memory.wf_write m a b h)

theorem Memory.wf_writeWords (m : Memory) (a : Nat) (ws : List Word) (h : m.wf = true) :
    (m.writeWords a ws).wf = true :=
  Memory.wf_writeBytes m a _ h

theorem Memory.wf_reset : State.reset.memory.wf = true := rfl

end Sys2Proof.Machine
end

