-- ==== Sys2Proof/Laws/Plans.lean ====
section
/-! SUPPORT. What the reading of a plan gives and what its three checks over header and arrays refuse, in the terms the
statements use (R115, R116, R180). -/
namespace Sys2Proof.Machine

/-! ### The first check that fails -/

theorem firstFailing_eq_none (l : List FieldCheck) : firstFailing l = none ↔ ∀ c ∈ l, c.2 = true := by
  induction l with
  | nil => simp [firstFailing]
  | cons c l ih => obtain ⟨o, b⟩ := c; cases b <;> simp [firstFailing, ih]

/-- The first check that fails, of a list in ascending order of offset, is the one at the lowest offset that fails. -/
theorem firstFailing_eq_some (l : List FieldCheck) (hl : l.Pairwise (fun c d => c.1 < d.1)) (o : Nat) :
    firstFailing l = some o ↔ isLowest (fun a => (a, false) ∈ l) o := by
  induction l with
  | nil => simp [firstFailing, isLowest]
  | cons c l ih =>
    obtain ⟨a, b⟩ := c
    obtain ⟨h1, h2⟩ := List.pairwise_cons.1 hl
    cases b
    · simp only [firstFailing, Bool.false_eq_true, if_false, Option.some.injEq, isLowest, List.mem_cons, Prod.mk.injEq,
        and_true]
      constructor
      · rintro rfl
        exact ⟨.inl rfl, fun x hx h => by
          rcases h with rfl | h
          · omega
          · have := h1 _ h; simp only at this; omega⟩
      · rintro ⟨rfl | h, h'⟩
        · rfl
        · have := h1 _ h
          exact absurd (.inl rfl) (h' a this)
    · simp only [firstFailing, if_true, ih h2, isLowest, List.mem_cons, Prod.mk.injEq, Bool.false_eq_true, and_false,
        false_or]

/-! ### The three checks (R115) -/

theorem mem_orderChecks (ws : List Word) (o : Nat) : (o, false) ∈ orderChecks ws ↔ planOutOfOrder ws o := by
  simp only [orderChecks, List.mem_append, List.mem_map, List.mem_range, Prod.mk.injEq, planOutOfOrder,
    Bool.and_eq_false_iff, Bool.or_eq_false_iff, decide_eq_false_iff_not, beq_eq_false_iff_ne, or_assoc]
  simp only [zoneCount, bandCount, markerCount, templateCount, zoneWord, bandWord, markerWord]
  refine or_congr ?_ (or_congr ?_ ?_)
  · constructor
    · rintro ⟨i, hi, rfl, h⟩
      refine ⟨i, _, hi, rfl, rfl, ?_⟩
      rcases h with h | ⟨h0, h⟩
      · exact .inl (by omega)
      · refine .inr ⟨by omega, ?_⟩
        rw [show 22 + 9 * i - 8 = 22 + 9 * (i - 1) + 1 by omega]; omega
    · rintro ⟨i, w, hi, rfl, rfl, h⟩
      refine ⟨i, hi, rfl, ?_⟩
      rcases h with h | ⟨h0, h⟩
      · exact .inl (by omega)
      · refine .inr ⟨by omega, ?_⟩
        rw [show 22 + 9 * i - 8 = 22 + 9 * (i - 1) + 1 by omega] at h; omega
  · constructor
    · rintro ⟨i, hi, rfl, h⟩
      refine ⟨i, _, by omega, hi, rfl, rfl, ?_⟩
      rw [show 22 + 9 * natAt ws 2 + 3 * i - 3 = 22 + 9 * natAt ws 2 + 3 * (i - 1) by omega]; omega
    · rintro ⟨i, w, h0, hi, rfl, rfl, h⟩
      refine ⟨i, hi, rfl, ?_⟩
      rw [show 22 + 9 * natAt ws 2 + 3 * i - 3 = 22 + 9 * natAt ws 2 + 3 * (i - 1) by omega] at h
      exact ⟨by omega, by omega⟩
  · constructor
    · rintro ⟨i, hi, rfl, h⟩
      refine ⟨i, _, by omega, hi, rfl, rfl, ?_⟩
      rw [show 22 + 9 * natAt ws 2 + 3 * natAt ws 3 + 128 * natAt ws 4 + 2 * i - 2 =
        22 + 9 * natAt ws 2 + 3 * natAt ws 3 + 128 * natAt ws 4 + 2 * (i - 1) by omega]; omega
    · rintro ⟨i, w, h0, hi, rfl, rfl, h⟩
      refine ⟨i, hi, rfl, ?_⟩
      rw [show 22 + 9 * natAt ws 2 + 3 * natAt ws 3 + 128 * natAt ws 4 + 2 * i - 2 =
        22 + 9 * natAt ws 2 + 3 * natAt ws 3 + 128 * natAt ws 4 + 2 * (i - 1) by omega] at h
      exact ⟨by omega, by omega⟩

theorem mem_referenceChecks (ws : List Word) (o : Nat) : (o, false) ∈ referenceChecks ws ↔ planBadReference ws o := by
  simp only [referenceChecks, List.mem_cons, List.mem_flatMap, List.mem_range, Prod.mk.injEq, planBadReference,
    List.not_mem_nil, or_false, eq_comm (a := false), decide_eq_false_iff_not, not_lt]
  simp only [bandCount, templateCount, bandWord, zoneCount]
  constructor
  · rintro (⟨rfl, h⟩ | ⟨i, hi, ⟨rfl, h⟩ | ⟨rfl, h⟩⟩)
    · exact ⟨6, .inl rfl, rfl, h⟩
    · exact ⟨_, .inr ⟨i, hi, .inl rfl⟩, by omega, h⟩
    · exact ⟨_, .inr ⟨i, hi, .inr rfl⟩, by omega, h⟩
  · rintro ⟨w, rfl | ⟨i, hi, rfl | rfl⟩, rfl, h⟩
    · exact .inl ⟨rfl, h⟩
    · exact .inr ⟨i, hi, .inl ⟨by omega, h⟩⟩
    · exact .inr ⟨i, hi, .inr ⟨by omega, h⟩⟩

theorem within_eq_false (lo hi x : Int) : within lo hi x = false ↔ x < lo ∨ hi < x := by
  simp [within]; omega

theorem mem_parameterChecks (ws : List Word) (w o : Nat) :
    (o, false) ∈ parameterChecks ws w ↔ parameterOutOfRange ws w o := by
  simp only [parameterChecks, List.mem_cons, Prod.mk.injEq, parameterOutOfRange, List.not_mem_nil, or_false,
    eq_comm (a := false), within_eq_false]
  refine or_congr (and_congr ?_ ?_) (or_congr (and_congr ?_ ?_) (or_congr (and_congr ?_ ?_) (or_congr (and_congr ?_ ?_)
    (or_congr (and_congr ?_ ?_) (or_congr (and_congr ?_ ?_) (and_congr ?_ ?_)))))) <;> omega

theorem mem_rangeChecks (ws : List Word) (o : Nat) : (o, false) ∈ rangeChecks ws ↔ planFieldOutOfRange ws o := by
  simp only [rangeChecks, List.mem_append, List.mem_cons, List.mem_flatMap, List.mem_map, List.mem_range, Prod.mk.injEq,
    planFieldOutOfRange, List.not_mem_nil, or_false, mem_parameterChecks, within_eq_false, eq_comm (a := false), or_assoc]
  simp only [zoneCount, bandCount, templateCount, markerCount, zoneWord, bandWord, templateWord, markerWord, halfAt]
  refine or_congr (and_congr Iff.rfl ?_) (or_congr (and_congr Iff.rfl ?_) (or_congr (and_congr Iff.rfl ?_)
    (or_congr (and_congr Iff.rfl ?_) (or_congr (and_congr Iff.rfl ?_) (or_congr (and_congr Iff.rfl ?_)
    (or_congr Iff.rfl (or_congr ?_ (or_congr ?_ (or_congr ?_ ?_)))))))))
  · omega
  · omega
  · omega
  · omega
  · omega
  · omega
  · constructor
    · rintro ⟨i, hi, h⟩; exact ⟨i, hi, by rwa [show 24 + 9 * i = 22 + 9 * i + 2 by omega]⟩
    · rintro ⟨i, hi, h⟩; exact ⟨i, hi, by rwa [show 22 + 9 * i + 2 = 24 + 9 * i by omega]⟩
  · constructor
    · rintro ⟨i, hi, rfl, h⟩; exact ⟨i, _, hi, rfl, rfl, by omega⟩
    · rintro ⟨i, w, hi, rfl, rfl, h⟩; exact ⟨i, hi, rfl, by omega⟩
  · constructor
    · rintro ⟨i, hi, k, hk, rfl, h⟩; exact ⟨i, k, _, hi, hk, rfl, rfl, by omega⟩
    · rintro ⟨i, k, w, hi, hk, rfl, rfl, h⟩; exact ⟨i, hi, k, hk, rfl, by omega⟩
  · constructor
    · rintro ⟨i, hi, rfl, h⟩; exact ⟨i, _, hi, rfl, rfl, by omega⟩
    · rintro ⟨i, w, hi, rfl, rfl, h⟩; exact ⟨i, hi, rfl, by omega⟩

/-! ### Their order -/

/-- Checks in ascending order of offset, all from one offset to below another. -/
def checksBetween (lo hi : Nat) (l : List FieldCheck) : Prop :=
  l.Pairwise (fun c d => c.1 < d.1) ∧ ∀ c ∈ l, lo ≤ c.1 ∧ c.1 < hi

theorem checksBetween.append {a b c : Nat} {l m : List FieldCheck} (hl : checksBetween a b l) (hm : checksBetween b c m)
    (hab : a ≤ b) (hbc : b ≤ c) : checksBetween a c (l ++ m) := by
  refine ⟨List.pairwise_append.2 ⟨hl.1, hm.1, fun x hx y hy => ?_⟩, fun x hx => ?_⟩
  · have := hl.2 x hx; have := hm.2 y hy; omega
  · rcases List.mem_append.1 hx with h | h
    · have := hl.2 x h; omega
    · have := hm.2 x h; omega

/-- Over the entries of an array the checks of each entry stand in the bytes of that entry. -/
theorem checksBetween_flatMap (n base width : Nat) (f : Nat → List FieldCheck)
    (h : ∀ i, checksBetween (base + width * i) (base + width * (i + 1)) (f i)) :
    checksBetween base (base + width * n) ((List.range n).flatMap f) := by
  refine ⟨List.pairwise_flatMap.2 ⟨fun i _ => (h i).1, List.pairwise_lt_range.imp ?_⟩, fun c hc => ?_⟩
  · intro i j hij c hc d hd
    have := ((h i).2 c hc).2
    have := ((h j).2 d hd).1
    have := Nat.mul_le_mul_left width (show i + 1 ≤ j by omega)
    omega
  · simp only [List.mem_flatMap, List.mem_range] at hc
    obtain ⟨i, hi, hc⟩ := hc
    have := (h i).2 c hc
    have := Nat.mul_le_mul_left width (show i + 1 ≤ n by omega)
    have := Nat.zero_le (width * i)
    omega

theorem checksBetween_map (n base width : Nat) (f : Nat → FieldCheck)
    (h : ∀ i, base + width * i ≤ (f i).1 ∧ (f i).1 < base + width * (i + 1)) :
    checksBetween base (base + width * n) ((List.range n).map f) := by
  have := checksBetween_flatMap n base width (fun i => [f i]) (fun i => ⟨by simp, by simpa using h i⟩)
  rwa [List.map_eq_flatMap]

theorem checksBetween.mono {a b a' b' : Nat} {l : List FieldCheck} (h : checksBetween a b l) (ha : a' ≤ a) (hb : b ≤ b') :
    checksBetween a' b' l :=
  ⟨h.1, fun c hc => by have := h.2 c hc; omega⟩

theorem checksBetween_orderChecks (ws : List Word) : checksBetween 88 (88 + planLength ws) (orderChecks ws) := by
  have hz := checksBetween_map (zoneCount ws) 88 36
    (fun i => (4 * zoneWord i, decide (intAt ws (zoneWord i) < intAt ws (zoneWord i + 1)) &&
      (i == 0 || decide (intAt ws (zoneWord (i - 1) + 1) ≤ intAt ws (zoneWord i)))))
    (fun i => by simp only [zoneWord]; omega)
  have hb := checksBetween_map (bandCount ws) (88 + 36 * zoneCount ws) 12
    (fun i => (4 * bandWord ws i, i == 0 || decide (natAt ws (bandWord ws (i - 1)) < natAt ws (bandWord ws i))))
    (fun i => by simp only [bandWord]; omega)
  have hm := checksBetween_map (markerCount ws)
    (88 + 36 * zoneCount ws + 12 * bandCount ws + 512 * templateCount ws) 8
    (fun i => (4 * markerWord ws i, i == 0 || decide (natAt ws (markerWord ws (i - 1)) < natAt ws (markerWord ws i))))
    (fun i => by simp only [markerWord]; omega)
  exact ((hz.append hb (by omega) (by omega)).append (hm.mono (by omega) (le_refl _)) (by omega) (by omega)).mono
    (le_refl _) (by simp only [planLength]; omega)

theorem checksBetween_referenceChecks (ws : List Word) :
    checksBetween 24 (88 + planLength ws) (referenceChecks ws) := by
  have hs : checksBetween 24 25 [(24, decide (natAt ws 6 < templateCount ws))] := ⟨by simp, by simp⟩
  have hb := checksBetween_flatMap (bandCount ws) (88 + 36 * zoneCount ws) 12
    (fun i =>
      [ (4 * bandWord ws i + 4, decide (natAt ws (bandWord ws i + 1) < templateCount ws)),
        (4 * bandWord ws i + 8, decide (natAt ws (bandWord ws i + 2) < templateCount ws)) ])
    (fun i => ⟨by simp, by simp [bandWord]; omega⟩)
  exact (hs.append (hb.mono (by omega) (le_refl _)) (by omega) (by omega)).mono (le_refl _)
    (by simp only [planLength]; omega)

theorem checksBetween_parameterChecks (ws : List Word) (w : Nat) :
    checksBetween (4 * w) (4 * w + 28) (parameterChecks ws w) := by
  simp only [parameterChecks]
  exact ⟨by simp, by simp⟩

theorem checksBetween_rangeChecks (ws : List Word) : checksBetween 4 (88 + planLength ws) (rangeChecks ws) := by
  have hh : checksBetween 4 60 [ (4, within 0 65535 (natAt ws 1)), (28, within 0 2000 (natAt ws 7)),
      (32, within 0 255 (natAt ws 8)), (36, within 1 255 (natAt ws 9)), (40, within 0 256 (natAt ws 10)),
      (44, within 0 255 (natAt ws 11)) ] := ⟨by simp, by simp⟩
  have hz := checksBetween_flatMap (zoneCount ws) 88 36 (fun i => parameterChecks ws (zoneWord i + 2))
    (fun i => (checksBetween_parameterChecks ws _).mono (by simp only [zoneWord]; omega) (by simp only [zoneWord]; omega))
  have hb := checksBetween_map (bandCount ws) (88 + 36 * zoneCount ws) 12
    (fun i => (4 * bandWord ws i, within 1 32767 (natAt ws (bandWord ws i)))) (fun i => by simp only [bandWord]; omega)
  have ht := checksBetween_flatMap (templateCount ws) (88 + 36 * zoneCount ws + 12 * bandCount ws) 512
    (fun i => (List.range 256).map (fun s =>
      (4 * templateWord ws i + 2 * s, within 0 16383 (halfAt ws (templateWord ws i) s))))
    (fun i => (checksBetween_map 256 (4 * templateWord ws i) 2 _ (fun s => by simp only; omega)).mono
      (by simp only [templateWord]; omega) (by simp only [templateWord]; omega))
  have hm := checksBetween_map (markerCount ws)
    (88 + 36 * zoneCount ws + 12 * bandCount ws + 512 * templateCount ws) 8
    (fun i => (4 * markerWord ws i, within 1 65535 (natAt ws (markerWord ws i)))) (fun i => by simp only [markerWord]; omega)
  exact (((((hh.append (checksBetween_parameterChecks ws 15) (by omega) (by omega)).append hz (by omega) (by omega)).append
    hb (by omega) (by omega)).append ht (by omega) (by omega)).append hm (by omega) (by omega)).mono (le_refl _)
    (by simp only [planLength]; omega)

/-! ### What the checks over header and arrays refuse (R115, R116) -/

theorem firstFailing_order (ws : List Word) (o : Nat) :
    firstFailing (orderChecks ws) = some o ↔ isLowest (planOutOfOrder ws) o := by
  rw [firstFailing_eq_some _ (checksBetween_orderChecks ws).1]; simp only [mem_orderChecks]

theorem firstFailing_reference (ws : List Word) (o : Nat) :
    firstFailing (referenceChecks ws) = some o ↔ isLowest (planBadReference ws) o := by
  rw [firstFailing_eq_some _ (checksBetween_referenceChecks ws).1]; simp only [mem_referenceChecks]

theorem firstFailing_range (ws : List Word) (o : Nat) :
    firstFailing (rangeChecks ws) = some o ↔ isLowest (planFieldOutOfRange ws) o := by
  rw [firstFailing_eq_some _ (checksBetween_rangeChecks ws).1]; simp only [mem_rangeChecks]

theorem firstFailing_none (l : List FieldCheck) : firstFailing l = none ↔ ∀ a, (a, false) ∉ l := by
  rw [firstFailing_eq_none]
  exact ⟨fun h a ha => absurd (h _ ha) (by simp), fun h c hc => by
    obtain ⟨a, b⟩ := c; cases b
    · exact absurd hc (h a)
    · rfl⟩

/-- The arrays of a plan at the offset `q` are refused with a code at `q` plus an offset exactly where the plan's words fail
with that code at that offset. -/
theorem planArraysRefusal_eq_some (q : Nat) (ws : List Word) (c : FaultCode) (o : Nat) :
    planArraysRefusal q ws = some (c, q + o) ↔ planFails ws c.number o := by
  simp only [planArraysRefusal, planFails, ← firstFailing_order, ← firstFailing_reference, ← firstFailing_range,
    ← mem_orderChecks, ← mem_referenceChecks, forall_and, ← firstFailing_none]
  cases firstFailing (orderChecks ws) <;> cases firstFailing (referenceChecks ws) <;>
    cases firstFailing (rangeChecks ws) <;> cases c <;> simp [FaultCode.number]

theorem planArraysRefusal_eq_none (q : Nat) (ws : List Word) :
    planArraysRefusal q ws = none ↔ ∀ code o, ¬ planFails ws code o := by
  simp only [planArraysRefusal, planFails, ← firstFailing_order, ← firstFailing_reference, ← firstFailing_range,
    ← mem_orderChecks, ← mem_referenceChecks, forall_and, ← firstFailing_none]
  cases firstFailing (orderChecks ws) <;> cases firstFailing (referenceChecks ws) <;>
    cases firstFailing (rangeChecks ws) <;> simp

/-- Whatever they are refused for, the code and the offset are those the plan's words fail with. -/
theorem planArraysRefusal_cases (q : Nat) (ws : List Word) (r : SetupRefusal) (h : planArraysRefusal q ws = some r) :
    ∃ o, r.2 = q + o ∧ planFails ws r.1.number o := by
  suffices h' : ∃ o, r.2 = q + o by
    obtain ⟨o, ho⟩ := h'
    exact ⟨o, ho, (planArraysRefusal_eq_some q ws r.1 o).1 (by rw [h, ← ho])⟩
  simp only [planArraysRefusal] at h
  split at h
  · cases h; exact ⟨_, rfl⟩
  · split at h
    · cases h; exact ⟨_, rfl⟩
    · split at h
      · cases h; exact ⟨_, rfl⟩
      · cases h

/-! ### The tables read (R180) -/

theorem ReadFrom_readParameters (ws : List Word) (w : Nat) : (readParameters ws w).ReadFrom ws w where
  radius := rfl
  tolerance := rfl
  warn := rfl
  deformLimit := rfl
  floor := rfl
  mode := rfl
  baselineUse := by simp [readParameters]

theorem ReadFrom_readTables (ws : List Word) (zones bands templates markers : Nat) :
    (readTables ws zones bands templates markers).ReadFrom ws zones bands templates markers where
  fields := by simp [readTables]
  baseline := rfl
  defaults := ReadFrom_readParameters ws 15
  lengths := by simp [readTables]
  zone i z h := by
    simp only [readTables, List.getElem?_map, Option.map_eq_some_iff] at h
    obtain ⟨j, hj, rfl⟩ := h
    obtain ⟨_, rfl⟩ := List.getElem?_eq_some_iff.1 hj
    rw [List.getElem_range, show 23 + 9 * i = zoneWord i + 1 by simp only [zoneWord]; omega,
      show 24 + 9 * i = zoneWord i + 2 by simp only [zoneWord]; omega]
    exact ⟨rfl, rfl, ReadFrom_readParameters ws _⟩
  band i b w h hw := by
    simp only [readTables, List.getElem?_map, Option.map_eq_some_iff] at h
    obtain ⟨j, hj, rfl⟩ := h
    obtain ⟨_, rfl⟩ := List.getElem?_eq_some_iff.1 hj
    subst hw
    simp only [List.getElem_range, bandWord, zoneCount, and_self]
  template i e w h hw := by
    simp only [readTables, List.getElem?_map, Option.map_eq_some_iff] at h
    obtain ⟨j, hj, rfl⟩ := h
    obtain ⟨_, rfl⟩ := List.getElem?_eq_some_iff.1 hj
    subst hw
    refine ⟨by simp, fun k hk => ?_⟩
    simp [List.getD_eq_getElem?_getD, hk, halfAt, templateWord, zoneCount, bandCount]
  marker i m w h hw := by
    simp only [readTables, List.getElem?_map, Option.map_eq_some_iff] at h
    obtain ⟨j, hj, rfl⟩ := h
    obtain ⟨_, rfl⟩ := List.getElem?_eq_some_iff.1 hj
    subst hw
    simp only [List.getElem_range, markerWord, zoneCount, bandCount, templateCount, and_self]

/-- Of a plan of which some words have arrived, the entries of each array whose last word has. -/
theorem ReadFrom_readArrived (ws : List Word) :
    (readArrived ws).ReadFrom ws (min (natAt ws 2) ((ws.length - 22) / 9))
      (min (natAt ws 3) ((ws.length - (22 + 9 * natAt ws 2)) / 3))
      (min (natAt ws 4) ((ws.length - (22 + 9 * natAt ws 2 + 3 * natAt ws 3)) / 128))
      (min (natAt ws 5) ((ws.length - (22 + 9 * natAt ws 2 + 3 * natAt ws 3 + 128 * natAt ws 4)) / 2)) :=
  ReadFrom_readTables ws _ _ _ _

/-- Of a whole plan, every entry. -/
theorem ReadFrom_readArrived_whole (ws : List Word)
    (h : 22 + 9 * natAt ws 2 + 3 * natAt ws 3 + 128 * natAt ws 4 + 2 * natAt ws 5 ≤ ws.length) :
    (readArrived ws).ReadFrom ws (natAt ws 2) (natAt ws 3) (natAt ws 4) (natAt ws 5) := by
  have := ReadFrom_readArrived ws
  rwa [min_eq_left (by omega), min_eq_left (by omega), min_eq_left (by omega), min_eq_left (by omega)] at this

end Sys2Proof.Machine
end

