-- ==== Sys2Proof/Tests/Slice0.lean ====
section
/-! SUPPORT. Tests: words written out from the manual's encodings, the manual's worked tables, one step of each kind of
command from its worked sequences; and a witness for every statement with hypotheses. Expected values are the manual's
own, or worked by hand from its formats. -/
namespace Sys2Proof.Tests

open Sys2Proof.Machine

/-! ### WellFormed: one smoke test for its one check -/

theorem test_known_kind_is_no_unknown_post : (Instr.unknownPostKind 3 0).wellFormed = false := by decide

theorem test_kinds_beside_the_known : (Instr.unknownPostKind 0 0).wellFormed = true ∧
    (Instr.unknownPostKind 7 0).wellFormed = true := by decide

/-! ### Link words, nibble by nibble (para 1.1, R1, R4) -/

/-- Kind 1; angle 4090 = 0xFFA, range 2741, strength 20 packed 12, 14, 6 bits: 0xFFA2AD54; check F. -/
theorem test_sample_word : linkWordCommand 0x1FFA2AD54F = .sampleWord 4090 2741 20 := by decide

/-- Kind 2; revolution 501 = 0x01F5, WINDOW (payload bit 8) set: 0x01F50100; check 8. -/
theorem test_mark_word : linkWordCommand 0x201F501008 = .goodMark 501 1 := by decide

/-- FILL and HALT with payloads that the part ignores. -/
theorem test_fill_and_halt_words :
    linkWordCommand 0x312345678B = .fillWord ∧ linkWordCommand 0x4000000004 = .haltWord := by decide

/-- A wrong check nibble, a kind of 0, and RUN arriving from the head. -/
theorem test_word_errors : linkWordCommand 0x4000000005 = .wordError ∧ linkWordCommand 0x0000000000 = .wordError ∧
    linkWordCommand 0x8000000008 = .wordError := by decide

/-- A word of 40 bits is the command R1 makes of it; one of 32 bits, and a number past 40 bits, are none (assumption 27). -/
theorem test_decode_table_word : decodeTableWord 40 0x201F501008 = some (.goodMark 501 1) ∧
    decodeTableWord 40 0x201F501009 = some .wordError ∧ decodeTableWord 40 0x8000000008 = some .wordError ∧
    decodeTableWord 32 0x201F5010 = none ∧ decodeTableWord 40 1099511627776 = none := by decide

theorem test_run_and_stop_words : runWord = 0x8000000008 ∧ stopWord = 0x9000000009 := by decide

/-! ### Register writes (para 10.1, para 10.2) -/

theorem test_posts : registerWriteCommand 0x0C 0x01004000 = some (.start 0x004000) ∧
    registerWriteCommand 0x0C 0x0200A000 = some (.plan 0x00A000) ∧
    registerWriteCommand 0x0C 0x03000003 = some (.returnSheet 3) ∧
    registerWriteCommand 0x0C 0x04000000 = some (.stopFinish 0) ∧
    registerWriteCommand 0x0C 0x05000000 = some (.stopDrop 0) ∧
    registerWriteCommand 0x0C 0x06000000 = some (.reset 0) ∧
    registerWriteCommand 0x0C 0x07000001 = some (.unknownPostKind 7 1) := by decide

theorem test_window_writes : registerWriteCommand 0x04 1 = some (.interruptEnableWrite 1) ∧
    registerWriteCommand 0x08 0x10000 = some (.areaWrite 0x10000) ∧
    registerWriteCommand 0x00 0 = some (.ignoredRegisterWrite .ident 0) ∧ registerWriteCommand 0x18 0 = none := by
  decide

/-! ### Chainage, cant and correction (chapters 2 and 3) -/

/-- R25, R26: the manual's examples, with a pitch of 5000 mm. -/
theorem test_station_numbers : stationNumber 5000 (124999 * 1024) = 24 ∧ stationNumber 5000 (125000 * 1024) = 25 ∧
    stationNumber 5000 (-1 * 1024) = -1 ∧ stationNumber 5000 (-5000 * 1024) = -1 ∧ reportedChainage (-1) = -1 ∧
    reportedChainage (-1024) = -1 ∧ reportedChainage 1023 = 0 := by decide

/-- The table after R48. -/
theorem test_cant_in_use : cantInUse [648, 651, 652, 650] = 650 ∧ cantInUse [651, 652, 650, 645] = 650 ∧
    cantInUse [-651, -652, -650, -645] = -650 ∧ cantInUse [-7, -8] = -8 ∧ cantInUse [1520, 1490, 1533] = 1500 ∧
    cantInUse [3] = 3 := by decide

/-- The values worked in R49. -/
theorem test_cant_angle_offset : cantAngleOffset 1500 = 171 ∧ cantAngleOffset 650 = 74 ∧ cantAngleOffset 4 = 0 ∧
    cantAngleOffset 5 = 1 ∧ cantAngleOffset (-1500) = -171 := by decide

/-- The calibration of para 3.6.2, with the pitch and hysteresis of para 2.7.1 and the window of para 1.8.1. -/
def calibration : Calibration :=
  { direction := .forward, countSign := .positive, countPitch := 1024, startChainage := 100000, stationPitch := 5000,
    hysteresis := 300, trimCode := 11, mountRoll := -20, zeroOffset := -6, rmin := 300, rmax := 9000, nmin := 1,
    nmax := 8192, cantZero := -12, mask := (15 : BitVec 256) <<< 188 }

/-- The seven samples of para 3.6.2, with floor 8 and C = 74. -/
theorem test_correction :
    correctSample calibration 8 74 { angle := 4090, range := 2741, strength := 20 } =
      some { railSector := 254, levelSector := 3, range := 2735 } ∧
    correctSample calibration 8 74 { angle := 3002, range := 2215, strength := 44 } =
      some { railSector := 186, levelSector := 191, range := 2209 } ∧
    correctSample calibration 8 74 { angle := 5, range := 0, strength := 0 } = none ∧
    correctSample calibration 8 74 { angle := 12, range := 60, strength := 30 } = none ∧
    correctSample calibration 8 74 { angle := 10, range := 16380, strength := 7 } = none ∧
    correctSample calibration 8 74 { angle := 3040, range := 2210, strength := 45 } = none ∧
    correctSample calibration 8 74 { angle := 2, range := 3, strength := 50 } = none := by decide

/-! ### Folding and the two assessments (chapters 4 to 6) -/

/-- Para 4.9.1 and para 4.9.2. -/
theorem test_folding :
    [2735, 2750, 2738, 2735, 2760].foldl RailCell.fold { count := 5, least := 2742, second := 2750 } =
      { count := 10, least := 2735, second := 2735 } ∧
    [2735, 2738, 2760].foldl LevelCell.fold { count := 39, sum := 106879 } = { count := 42, sum := 115112 } ∧
    [2760, 2700, 2718].foldl RailCell.fold { count := 65535, least := 2720, second := 2725 } =
      { count := 65535, least := 2700, second := 2718 } ∧
    [2760, 2700, 2718].foldl LevelCell.fold { count := 65534, sum := 179628694 } =
      { count := 65535, sum := 179631454 } := by decide

/-- The parameters of zone 12 of para 5.8.1. -/
def zoneParameters : ZoneParameters :=
  { radius := -420, tolerance := 15, warn := 50, deformLimit := 10, floor := 8, mode := .exceptions, baselineUse := true }

/-- A plan with the bands of para 5.2, the descriptor of para 6.7.1 and the marker of para 2.7.2. -/
def tables : PlanTables :=
  { straight := 0, snapWindow := 150, kr := 40, km := 20, blindLimit := 12, closeAfter := 0,
    baseline := { offset := 262144, first := 0, count := 150 }, defaults := zoneParameters, zones := [],
    bands := [{ limit := 300, left := 3, right := 4 }, { limit := 600, left := 5, right := 6 },
              { limit := 1200, left := 1, right := 2 }],
    templates := [], markers := [{ ident := 812, chainage := 125120 }] }

/-- The table after R82. -/
theorem test_template_choice : tables.templateFor 0 = 0 ∧ tables.templateFor (-420) = 5 ∧ tables.templateFor 300 = 4 ∧
    tables.templateFor 301 = 6 ∧ tables.templateFor (-1200) = 1 ∧ tables.templateFor 1201 = 0 ∧
    tables.templateFor (-32767) = 0 := by decide

/-- The table after R88. -/
theorem test_tolerated_radius : toleratedRadius 10 (-15) = 1 ∧ toleratedRadius 1 0 = 1 ∧
    toleratedRadius 2700 15 = 2715 ∧ toleratedRadius 2700 (-500) = 2200 ∧ toleratedRadius 16380 15 = 16383 := by decide

/-- Sectors 29 to 188 of para 5.8.2. -/
theorem test_assessment :
    assessSector false 2640 { count := 240, least := 2701, second := 2706 } 15 50 = { cls := .clear, margin := some 51 } ∧
    assessSector false 2640 { count := 236, least := 2688, second := 2704 } 15 50 = { cls := .near, margin := some 49 } ∧
    assessSector false 2620 { count := 228, least := 2571, second := 2590 } 15 50 =
      { cls := .encroach, margin := some (-45) } ∧
    assessSector false 2620 { count := 1, least := 2660, second := 16383 } 15 50 = { cls := .near, margin := some 25 } ∧
    assessSector false 2610 { count := 0, least := 16383, second := 16383 } 15 50 = { cls := .blind, margin := none } ∧
    assessSector false 0 { count := 310, least := 1840, second := 1846 } 15 50 = { cls := .ungauged, margin := none } ∧
    assessSector true 2980 { count := 0, least := 16383, second := 16383 } 15 50 = { cls := .masked, margin := none } := by
  decide

/-- Level sectors 3, 60, 141, 200 and 210 of para 6.7.2, with Km 20 and V 10. -/
theorem test_level_sectors :
    judgeLevel 20 10 { count := 40, sum := 109620 } 2733 = { status := .steady, deviation := some 8 } ∧
    judgeLevel 20 10 { count := 180, sum := 498690 } 2752 = { status := .deform, deviation := some 19 } ∧
    judgeLevel 20 10 { count := 310, sum := 569500 } 1856 = { status := .deform, deviation := some (-19) } ∧
    judgeLevel 20 10 { count := 15, sum := 41250 } 2690 = { status := .none, deviation := none } ∧
    judgeLevel 20 10 { count := 96, sum := 266928 } 0 = { status := .noBase, deviation := none } := by decide

/-- R106 on the deviations of para 6.7.2: the first of equal magnitude is kept. -/
theorem test_deform_summary : deformSummary 0 none
    ([19, 12, -13, -19].map fun d => ({ status := .deform, deviation := some d } : LevelResult)) = (4, some 19) := by decide

/-! ### Formats (chapter 11) -/

/-- The bank of station 218 (para 5.8.1). -/
def bank218 : Bank :=
  { Bank.reset with
    phase := .evaluating, first := 218, zone := some 12, committed := 83, discarded := 2,
    planReference := some { set := .x, generation := 21 }, endChainage := some 219000 }

/-- The record of para 11.6.1: 18 entries, of which the second is that of sector 31. -/
def record218 : Record :=
  stationRecord .evaluated bank218 5
    { worstMargin := some (-45), worstSector := some 31, encroach := 2, near := 3, blind := 9 } 4 (some 19)
    (List.replicate 18 { sector := 31, rail := { cls := .encroach, margin := some (-45) },
                         level := { status := .steady, deviation := some 4 } })

theorem test_station_record :
    ({ record := record218, lostBefore := 0 } : Queued).words.take 12 =
      [0x002E0501, 0x00150000, 218, 0, 219000, 0x00020053, 0x001FFFD3, 0x18120013, 0xA0301000, 0x00040809,
        0x0002031F, 0x0004FFD3] := by decide

/-- END of mode DROP, cleared count 2 (para 10.10): its END status is 0x0202. -/
theorem test_end_status : (endRecord .drop 2 7 (-1)).body = [0x00070202, 0xFFFFFFFF] := by decide

/-- R180: the third marker after 3 zones, 2 bands and 4 templates lies at plan offset 2284. -/
theorem test_marker_place :
    4 * markerWord [0x4E36A002, 21, 3, 2, 4, 5] 2 = 2284 := by decide

/-- R165: a sound header; and a sheet count of 1, refused with BAD_COUNT at offset 12. -/
theorem test_area_header : areaHeaderRefusal 0 [0x4E36A001, 65536, 168, 4, 8192, 4096] = none ∧
    areaHeaderRefusal 0 [0x4E36A001, 65536, 168, 1, 8192, 4096] = some (.badCount, 12) := by decide

/-! ### Alerts (para 9.8.1) -/

def deformAlert (station : Int) (deviation : Int) : Alert :=
  { station := station, kind := .deform, worstMargin := some 38, worstSector := some 9, deformCount := 1,
    maxDeviation := some deviation }

def alerts16 : List Alert :=
  [12, 12, 12, 11, 12, 12, 12, 12, 12, 12, -11, 12, 12, 12, 12, 12].zipIdx.map
    fun (d, k) => deformAlert (301 + k) d

theorem test_full_alert_list :
    ((offerAlertTo alerts16 false (deformAlert 317 (-14))).1.map Alert.station) =
      [301, 302, 303, 304, 305, 306, 307, 308, 309, 310, 312, 313, 314, 315, 316, 317] ∧
    offerAlertTo alerts16 false (deformAlert 318 11) = (alerts16, true) := by decide

/-- Alert 301's DETAIL: worst margin -22, worst sector 5, no deviation. -/
theorem test_alert_detail :
    Alert.packed
      { station := 301, kind := .encroach, worstMargin := some (-22), worstSector := some 5, deformCount := 0,
        maxDeviation := none } = 0xFFEA0580 := by decide

/-! ### A survey in the course of running -/

def setX : PlanSet :=
  { status := .loaded, mark := .active, references := 1, generation := 21, offset := 0x4000, tables := tables }

def openBank0 : Bank :=
  { Bank.reset with
    phase := .opened, openingNumber := 7, first := 24, startChainage := 120000,
    planReference := some { set := .x, generation := 21 } }

/-- RUNNING, FORWARD, pitch 5000 mm, station 24 OPEN in bank 0 with opening number 7, chainage and peak at 124,999 mm,
sheet 0 filling and the rest free. -/
def running : State :=
  { State.reset with
    sweep := { SweepPort.reset with intake := .opened, markTimer := true, lastCommand := .run }
    chainage :=
      { mode := .surveying, chainage := 124999 * 1024, peak := 124999 * 1024, tracker := .tracking,
        lineReference := some ({ line1 := false, line2 := false }), openStation := some 24, marker := none }
    accumulator := { SectorAccumulator.reset with openingCounter := 7, bank0 := openBank0 }
    loader := { calibration := some calibration, calibrationWords := [], setX := setX, setY := .reset, load := .idle }
    sheets := { SheetWriter.reset with
      sheetCount := 4, sheetSize := 8192, sheetBase := 4096, freeSheets := [1, 2, 3], sequence := 1, drain := .ready
      filling := some ({ sheet := 0, sequence := 1, writeOffset := 40, records := 1, stations := 0 }) }
    control := { SurveyControl.reset with
      survey := .running, area := 0x10000
      geometry := some ({ areaSize := 65536, calibrationOffset := 168, sheetCount := 4, sheetSize := 8192,
                          sheetBase := 4096 }) } }

def revolution100 : Revolution :=
  { opening := 100, tag := some { bank := .bank0, opening := 7 }, window := false, buffer := .a }

/-- `running` with revolution 100 being received into buffer A, `n` samples stored. -/
def receiving (n : Nat) : State :=
  { running with
    sweep := { running.sweep with
      receiver := .receiving, current := some revolution100
      bufferA := { phase := .receiving, samples := List.replicate n { angle := 0, range := 2741, strength := 20 } } }
    accumulator := { running.accumulator with bank0 := { openBank0 with inHand := 1 } } }

/-- The state a command leads to. -/
def after (c : Instr) (s : State) : State :=
  match exec c s with
  | .next t => t
  | .fault _ => s
  | .refused _ => s

/-! ### One step of each kind of command -/

/-- The word of a MARK put in front runs as that MARK. -/
theorem test_link_word_is_run : step (running.withFetchWord 40 0x201F501008) = exec (.goodMark 501 1) running := rfl

/-- Para 1.8.1: a complete revolution is handed over and the next takes buffer B. -/
theorem test_good_mark :
    (after (.goodMark 101 0) (receiving 3)).sweep.bufferA.phase = .handed ∧
    ((after (.goodMark 101 0) (receiving 3)).sweep.current.map Revolution.buffer) = some .b := by decide

/-- R9: a SLOW closing MARK discards the revolution, and buffer A serves the next. -/
theorem test_slow_mark : (after (.goodMark 101 2) (receiving 3)).accumulator.bank0.discarded = 1 ∧
    ((after (.goodMark 101 2) (receiving 3)).sweep.current.map Revolution.buffer) = some .a := by decide

theorem test_sample_dropped_in_waiting : exec (.sampleWord 1 2 3) running = .next running := rfl

theorem test_sample_stored :
    (after (.sampleWord 1 2 3) (receiving 0)).sweep.bufferA.samples = [{ angle := 1, range := 2, strength := 3 }] := by
  decide

theorem test_fill_dropped : exec .fillWord (receiving 3) = .next (receiving 3) := rfl

theorem test_word_error : (after .wordError (receiving 3)).sweep.receiver = .discard ∧
    (after .wordError (receiving 3)).accumulator.bank0.discarded = 1 := by decide

/-- Para 1.8.2: a first link fault, and a second with the latch still set. -/
theorem test_halt : (after .haltWord (receiving 3)).sweep.latch = true ∧
    (after .haltWord (receiving 3)).sweep.runFaults = 1 := by decide

theorem test_second_fault :
    (after .markTimerExpiry (after .haltWord (receiving 3))).control.survey = .faulted := by decide

/-- Para 3.6.1: 636 less a cant zero offset of -12 joins the history. -/
theorem test_cant_reply :
    (after (.cantReply 636 true) { running with cant := { running.cant with readInFlight := true } }).cant.history =
      [648] := by decide

/-- R46: the sixteenth failure in a row raises CANT_FAULT. -/
theorem test_reply_timer_expiry :
    (after .replyTimerExpiry
      { running with cant := { history := [648], failures := 15, readInFlight := true } }).notices.cantFault =
      some { argument := 16, particulars := 1, more := false } := by decide

/-- Para 2.7.1: a step forward to 125,000 mm opens station 25 in the other bank. -/
theorem test_boundary : (after (.odometerStep true false) (receiving 3)).chainage.openStation = some 25 ∧
    (after (.odometerStep true false) (receiving 3)).accumulator.bank0.phase = .closing := by decide

/-- Para 2.7.1: a step back to 301 mm behind the peak abandons the station. -/
theorem test_reversal :
    (after (.odometerStep false true)
      { running with chainage := { running.chainage with chainage := 124699 * 1024 } }).chainage.tracker = .backed := by
  decide

theorem test_marker_arrival : (after (.markerArrival 812) running).chainage.marker =
    some { ident := 812, chainage := 124999 * 1024, crowded := false } := by decide

/-- A snap of +121 mm into station 25 (after para 2.7.2). -/
theorem test_marker_taking :
    (after .markerTaking (after (.markerArrival 812) (receiving 3))).chainage.chainage = 125120 * 1024 ∧
    (after .markerTaking (after (.markerArrival 812) (receiving 3))).accumulator.bank0.flags.snapped = true := by decide

/-- `receiving 3` after the MARK that hands revolution 100 over. -/
def committing : State := after (.goodMark 101 0) (receiving 3)

theorem test_commit_end : (after .commitEnd committing).accumulator.bank0.committed = 1 ∧
    (after .commitEnd committing).sweep.bufferA.phase = .free := by decide

/-- Station 24 EVALUATING in bank 0 and under assessment, station 25 OPEN in bank 1. -/
def assessing : State :=
  { running with
    chainage := { running.chainage with chainage := 125000 * 1024, peak := 125000 * 1024, openStation := some 25 }
    accumulator := { running.accumulator with
      openingCounter := 8, evaluationOrder := [.bank0]
      bank0 := { openBank0 with phase := .evaluating, endChainage := some 125000, committed := 50 }
      bank1 := { openBank0 with openingNumber := 8, first := 25, startChainage := 125000 } }
    loader := { running.loader with setX := { setX with references := 2 } }
    evaluator := { ClearanceEvaluator.reset with
      phase := .assessing, bank := some .bank0, template := 5, tolerance := 15, warn := 50, blindLimit := 12 } }

/-- R102: the record of station 24 lies at 262,144 + 24 x 520, and its first burst is granted. -/
theorem test_evaluation_pass_end :
    ((after .evaluationPassEnd assessing).port.grant.map fun g => g.burst.offset) = some 274624 := by decide

/-- `assessing` after the hand-over, the level comparison in progress with no baseline used. -/
def comparing : State :=
  { assessing with
    evaluator := ClearanceEvaluator.reset
    comparator := { BaselineComparator.reset with
      phase := .comparing, bank := some .bank0
      rail := some ({ results := List.replicate 256 { cls := .clear, margin := some 51 }, template := 5,
                      summary := { worstMargin := some 51, worstSector := some 0, encroach := 0, near := 0,
                                   blind := 0 } }) } }

set_option maxRecDepth 4000 in
theorem test_comparison_pass_end : (after .comparisonPassEnd comparing).accumulator.bank0.phase = .free ∧
    (after .comparisonPassEnd comparing).loader.setX.references = 1 := by decide

def position : Grant :=
  { requester := .control, burst := { offset := 24, transfer := .write [0x00010002, 124999, 24, 21], purpose := .position },
    base := 0x10000, abandoned := false }

/-- A write at area offset 24 under AREA 0x10000: its first word little-endian (R178). -/
theorem test_burst_complete :
    (after (.burstComplete (Vector.replicate 16 0)) { running with port := { running.port with grant := some position } }).memory.take 4 =
      [(65560, 2), (65561, 0), (65562, 1), (65563, 0)] := by decide

theorem test_bus_error :
    (after .busError { running with port := { running.port with grant := some position } }).notices.fault =
      some { cause := .bus, particulars := 24 } := by decide

/-- Para 9.8.2: MARKER_MISMATCH 907 with MORE, particulars -410. -/
theorem test_notice_read :
    (after .noticeRead
      { running with notices := { running.notices with
          markerMismatch := some ({ argument := 907, particulars := 0xFFFFFE66, more := true }) } }).hostRead =
      0x8500038B := by decide

theorem test_area_write : (after (.areaWrite 0x20003) State.reset).control.area = 0x20000 ∧
    after (.areaWrite 0x20003) running = running := ⟨by decide, rfl⟩

theorem test_interrupt_enable_write : (after (.interruptEnableWrite 3) running).control.interruptEnable = true := rfl

theorem test_ignored_write : after (.ignoredRegisterWrite .detail 5) running = running := rfl

theorem test_start : (after (.start 0x4000) State.reset).control.survey = .starting := rfl

/-- R114: a misaligned plan offset is refused with BAD_SPAN at that offset. -/
theorem test_plan : (after (.plan 0x8002) running).notices.setupFault =
    some { argument := 3, particulars := 0x8002, more := false } := by decide

theorem test_return :
    (after (.returnSheet 3) { running with sheets := { running.sheets with
      closedSheets := [3], freeSheets := [1, 2] } }).sheets.freeSheets = [1, 2, 3] := by decide

theorem test_stop_finish : (after (.stopFinish 0) (receiving 3)).sweep.intake = .closed ∧
    (after (.stopFinish 0) committing).accumulator.bank0.flags.cutShort = true := by decide

/-- R171, R145: END of DROP is the one record of the queue. -/
theorem test_stop_drop : ((after (.stopDrop 0) (receiving 3)).sheets.queue.map fun q => q.record.kind) = [.finish] := by
  decide

theorem test_reset : (after (.reset 0) running).postValue = 0x06000000 := by decide

theorem test_unknown_post : (after (.unknownPostKind 9 0) running).postValue = 0x09000202 := by decide

theorem test_full_reset : (after .fullReset running).postValue = 0 ∧ (after .fullReset running).control.area = 0 := by
  decide

/-! ### Witnesses: states and operands that meet the hypotheses of the statements -/

theorem rested {s : State} (hd : s.positionDue = false) (ho : s.port.access = .opened)
    (hs : s.control.survey ≠ .faulted) (hg : s.port.grant = none → s.port.queuesEmpty) : s.Rested :=
  ⟨hd, ⟨by simp [ho, hs], by simp [ho], fun _ => hg⟩⟩

theorem begun {s : State} (h : s.accumulator.evaluationOrder = []) : s.EvaluationsBegun := by
  intro i hi; simp [h] at hi

theorem leavesNoneEmpty {s : State} {tag : Option Tag}
    (h0 : s.lastInHandOf tag = some .bank0 → (s.bank .bank0).committed ≠ 0)
    (h1 : s.lastInHandOf tag = some .bank1 → (s.bank .bank1).committed ≠ 0) : s.LeavesNoneEmpty tag := by
  intro i; cases i <;> assumption

/-- The tag while TRACKING with one bank OPEN. -/
theorem answersTag_some {s : State} (i : BankId) (h : s.chainage.tracker = .tracking ∧ (s.bank i).phase = .opened ∧
    (s.bank i.other).phase ≠ .opened) : s.AnswersTag (some { bank := i, opening := (s.bank i).openingNumber }) :=
  ⟨fun hb => by simp [h.1] at hb, fun hn => absurd h.2.1 (hn i), fun j _ hj => by
    cases i <;> cases j <;> first | rfl | exact absurd hj h.2.2⟩

/-- The tag while BACKED. -/
theorem answersTag_none {s : State} (h : s.chainage.tracker = .backed) : s.AnswersTag none :=
  ⟨fun _ => rfl, fun _ => rfl, fun _ ht => by simp [h] at ht⟩

theorem noLoadWaits {s : State} (h : s.loader.load = .idle) : s.NoLoadWaits := by
  intro a b; simp [h]

/-- A state whose port is open with nothing waiting, between events. -/
theorem restedNow {s : State} (h : s.positionDue = false ∧ s.port.access = .opened ∧ s.control.survey ≠ .faulted ∧
    s.port.comparatorQueue = [] ∧ s.port.writerQueue = [] ∧ s.port.controlQueue = [] ∧ s.port.loaderQueue = []) : s.Rested :=
  rested h.1 h.2.1 h.2.2.1 (fun _ => h.2.2.2)

theorem running_rested : running.Rested := rested rfl rfl (by decide) (fun _ => ⟨rfl, rfl, rfl, rfl⟩)

theorem receiving_rested (n : Nat) : (receiving n).Rested := rested rfl rfl (by simp [receiving, running]) (fun _ => ⟨rfl, rfl, rfl, rfl⟩)

/-- `running` with a grant in progress. -/
def granted (g : Grant) : State := { running with port := { running.port with grant := some g } }

/-- A grant of the Sheet Writer's. -/
def writing (p : Purpose) : Grant :=
  { requester := .writer, burst := { offset := 40, transfer := .write [2, 1], purpose := p }, base := 0x10000,
    abandoned := false }

/-- A grant of a read. -/
def reading (r : Requester) (p : Purpose) (n : Nat) : Grant :=
  { requester := r, burst := { offset := 0, transfer := .read n, purpose := p }, base := 0x10000, abandoned := false }

theorem granted_rested (g : Grant) : (granted g).Rested := rested rfl rfl (by simp [granted, running]) (fun h => nomatch h)

theorem witness_StepTakesTheFrontCommand :
    (∃ s : State, s.pending = .fillWord :: [.haltWord]) ∧ ∃ s : State, s.pending = [] :=
  ⟨⟨{ running with pending := [.fillWord, .haltWord] }, rfl⟩, State.reset, rfl⟩

theorem cells_empty (b : Bank) (hr : b.rail = Vector.replicate 256 .empty) (hl : b.level = Vector.replicate 256 .empty) :
    b.CellsSound := by
  constructor
  · intro i; simp [hr, RailCell.empty, Vector.get]
  · intro i; simp [hl, LevelCell.empty, Vector.get]

/-- `running` meets every invariant, and a step from it with a command waiting answers a next state. -/
theorem witness_invariants : ∃ s t : State, s.MemorySound ∧ s.AreaAligned ∧ s.Rested ∧ s.ModesSound ∧ s.CantSound ∧
    s.ChainageSound ∧ s.BuffersSound ∧ s.CellsSound ∧ s.StationsSound ∧ s.PlansSound ∧ s.QueueSound ∧ s.SheetsSound ∧
    s.AlertsSound ∧ s.control.survey = .running ∧ step s = .next t := by
  refine ⟨{ running with pending := [.haltWord] }, _, rfl, rfl,
    rested rfl rfl (by decide) (fun _ => ⟨rfl, rfl, rfl, rfl⟩), ?_, ?_, ?_, ?_,
    ⟨cells_empty _ rfl rfl, cells_empty _ rfl rfl⟩, ?_, ?_, ⟨by decide, by decide⟩, ?_,
    Nat.zero_le 16, rfl, rfl⟩
  · constructor <;> decide
  · refine ⟨by decide, by decide, by decide, ?_⟩
    intro c hc; cases hc; decide
  · refine ⟨by decide, by decide, ?_⟩
    intro c hc; cases hc; decide
  · refine ⟨?_, ?_, by decide, ?_, ?_, ?_⟩
    · intro i; cases i <;> simp [State.buffer, running, SweepPort.reset, RevolutionBuffer.reset]
    · intro i; cases i <;> simp [State.buffer, running, SweepPort.reset, RevolutionBuffer.reset]
    · intro i; cases i <;> decide
    · intro i; cases i <;> decide
    · intro k hk; cases hk
  · refine ⟨by decide, ?_, by decide, ?_, by decide, ?_, ?_, ?_, by decide, fun _ => by decide, fun h => absurd rfl h,
      (fun h => nomatch h), begun rfl, fun h => nomatch h⟩
    · intro i; cases i <;> decide
    · intro i; cases i <;> decide
    · intro i; cases i <;> decide
    · intro i hi; cases hi
    · intro i hi; cases hi
  · refine ⟨by decide, by decide, ?_, ?_, ?_, ?_, ?_, ?_, (fun _ _ _ _ h => nomatch h), (fun _ _ h => nomatch h),
      fun _ => by decide, fun h => absurd rfl h⟩
    · intro j; cases j <;> decide
    · intro j; cases j <;> decide
    · intro j; cases j <;> decide
    · intro j; cases j <;> decide
    · intro i; cases i <;> decide
    · intro i; cases i <;> decide
  · exact ⟨fun _ => by decide, fun h => absurd rfl h, fun h => absurd rfl h, by decide⟩

theorem witness_SurveyChangesAsTheTableGives : ∃ s t : State, exec (.start 0x4000) s = .next t ∧
    t.control.survey ≠ s.control.survey := ⟨State.reset, _, rfl, by decide⟩

theorem witness_WindowRegistersChangeOnlyAsWritten :
    (∃ s t : State, exec (.areaWrite 0x10000) s = .next t ∧ t.control.area ≠ s.control.area) ∧
    (∃ s t : State, exec (.interruptEnableWrite 1) s = .next t ∧
      t.control.interruptEnable ≠ s.control.interruptEnable) ∧
    (∃ s t : State, exec .noticeRead s = .next t ∧ t.notices.detail ≠ s.notices.detail) ∧
    ∃ s t : State, s.AreaAligned ∧ step s = .next t :=
  ⟨⟨State.reset, _, rfl, by decide⟩, ⟨State.reset, _, rfl, by decide⟩,
    ⟨{ running with notices := { running.notices with starved := some 3 } }, _, rfl, by decide⟩,
    running, _, rfl, rfl⟩

theorem witness_MemoryChangesOnlyByTheGrant : ∃ s t : State,
    exec (.burstComplete (Vector.replicate 16 0)) s = .next t ∧ t.memory ≠ s.memory :=
  ⟨granted position, _, rfl, by decide⟩

theorem witness_LinkWordsReadBackAndOneWrongNibbleIsCaught :
    encodeLinkWord (.sampleWord 4090 2741 20) = some 0x1FFA2AD54F ∧ linkWordCommand 0x1FFA2AD54F ≠ .wordError ∧
      (9 : Nat) < 10 ∧ (1 : BitVec 4) ≠ 0 ∧ (39 : Nat) ≠ 40 ∧ (41 : Nat) ≠ 40 := by decide

theorem witness_RegisterWritesReadBack : (Instr.unknownPostKind 255 0).wellFormed = true ∧
    encodeRegisterWrite (.unknownPostKind 255 0) = some (0x0C, 0xFF000000) ∧
    registerWriteCommand 0x0C 0x00000000 = some (.unknownPostKind 0 0) := by decide

theorem witness_DroppedWordsChangeNothing : State.reset.sweep.intake = .closed ∧
    running.sweep.intake = .opened ∧ running.sweep.receiver ≠ .receiving ∧ State.reset.sweep.markTimer = false := by decide

theorem receiving_length (n : Nat) : ((receiving n).buffer revolution100.buffer).samples.length = n :=
  List.length_replicate

/-- With 8191 samples stored, the last that R6 admits. -/
theorem witness_SampleIsStored : ∃ (s : State) (r : Revolution), s.sweep.intake = .opened ∧
    s.sweep.receiver = .receiving ∧ s.sweep.current = some r ∧ (s.buffer r.buffer).samples.length < 8192 :=
  ⟨receiving 8191, revolution100, rfl, rfl, rfl, by rw [receiving_length]; decide⟩

/-- `receiving 1` after the boundary that closes station 24, with so many revolutions committed to it and in hand, of which
revolution 100 is one. -/
def closedWith (committed inHand : Nat) : State :=
  after (.odometerStep true false)
    { receiving 1 with accumulator := { running.accumulator with
        bank0 := { openBank0 with inHand := inHand, committed := committed } } }

/-- What SpoiledRevolutionIsDiscarded asks of a state. -/
def Spoiling (s : State) : Prop := s.Rested ∧ s.EvaluationsBegun ∧ s.control.survey = .running ∧
  s.sweep.intake = .opened ∧ s.sweep.receiver = .receiving ∧ s.sweep.current = some revolution100

/-- With 8192 samples stored, for a word error and for an overrun alike, the station OPEN; of a CLOSING station, with another
in hand, as its last with one committed, and as its last with none. -/
theorem witness_SpoiledRevolutionIsDiscarded :
    (Spoiling (receiving 8192) ∧ (receiving 8192).LeavesNoneEmpty revolution100.tag ∧
      8192 ≤ ((receiving 8192).buffer revolution100.buffer).samples.length) ∧
    (∀ s ∈ [closedWith 0 2, closedWith 1 1], Spoiling s ∧ s.LeavesNoneEmpty revolution100.tag ∧
      (s.bank .bank0).phase = .closing) ∧
    ((closedWith 0 2).lastInHandOf revolution100.tag = none ∧
      (closedWith 1 1).lastInHandOf revolution100.tag = some .bank0) ∧
    (Spoiling (closedWith 0 1) ∧ (closedWith 0 1).lastInHandOf revolution100.tag = some .bank0 ∧
      ((closedWith 0 1).bank .bank0).committed = 0 ∧ (closedWith 0 1).accumulator.evaluationOrder = [.bank0] ∧
      ((closedWith 0 1).bank .bank1).boundaryHeld = false ∧ (closedWith 0 1).NoLoadWaits) := by
  refine ⟨⟨⟨receiving_rested _, begun rfl, rfl, rfl, rfl, rfl⟩, leavesNoneEmpty (fun h => nomatch h) (fun h => nomatch h),
    Nat.le_of_eq (receiving_length 8192).symm⟩, ?_, by decide,
    ⟨restedNow (by decide), fun i hi _ => (by cases i <;> revert hi <;> decide), by decide, by decide, by decide, by decide⟩,
    by decide, by decide, by decide, by decide, noLoadWaits (by decide)⟩
  intro s hs
  simp only [List.mem_cons, List.not_mem_nil, or_false] at hs
  rcases hs with rfl | rfl <;>
    exact ⟨⟨restedNow (by decide), fun i hi _ => (by cases i <;> revert hi <;> decide), by decide, by decide, by decide,
      by decide⟩, leavesNoneEmpty (by decide) (by decide), by decide⟩

/-- `committing` with a sample of revolution 101 stored in buffer B. -/
def committingAndReceiving : State := after (.sampleWord 0 2741 20) committing

/-- `committing` with revolution 101 handed over too: no buffer is FREE, and the first commit is in progress. -/
def bothHanded : State := after (.goodMark 102 0) committingAndReceiving

/-- BACKED one step short of the peak, no station open. -/
def belowPeak : State :=
  { running with
    chainage := { running.chainage with chainage := 124998 * 1024, tracker := .backed, openStation := none }
    accumulator := SectorAccumulator.reset }

/-- TRACKING with a station OPEN, with both buffers FREE and with neither; and BACKED with no bank OPEN. -/
theorem witness_GoodMarkOpensARevolution : (∀ s ∈ [running, bothHanded, belowPeak], s.Rested ∧ s.EvaluationsBegun ∧
    s.control.survey = .running ∧ s.sweep.intake = .opened ∧ s.sweep.receiver ≠ .receiving ∧
    (s.accumulator.commit ≠ none ∨ s.sweep.handover = [])) ∧
    (∀ s ∈ [running, bothHanded], s.AnswersTag (some { bank := .bank0, opening := 7 })) ∧ belowPeak.AnswersTag none ∧
    (∀ j, (running.buffer j).phase = .free) ∧ ∀ j, (bothHanded.buffer j).phase = .handed := by
  refine ⟨?_, ?_, answersTag_none rfl, fun j => by cases j <;> rfl, fun j => by cases j <;> decide⟩
  · intro s hs
    simp only [List.mem_cons, List.not_mem_nil, or_false] at hs
    rcases hs with rfl | rfl | rfl <;>
      exact ⟨restedNow (by decide), begun (by decide), by decide, by decide, by decide, by decide⟩
  · intro s hs
    simp only [List.mem_cons, List.not_mem_nil, or_false] at hs
    rcases hs with rfl | rfl <;> exact answersTag_some .bank0 (by decide)

/-- BACKED, revolution 100 of station 24 being received, station 24 CLOSING with no other revolution in hand. -/
def backedClosing : State :=
  { receiving 1 with
    chainage := { running.chainage with chainage := 124698 * 1024, tracker := .backed, openStation := none }
    accumulator := { running.accumulator with
      evaluationOrder := [.bank0]
      bank0 := { openBank0 with phase := .closing, endChainage := some 125000, inHand := 1, committed := 1 } } }

/-- `receiving 1` with another station opened in bank 0 since revolution 100 was tagged. -/
def reopened : State :=
  { receiving 1 with accumulator := { running.accumulator with bank0 := { openBank0 with openingNumber := 8 } } }

/-- Of one sample, the calibration's Nmin; TRACKING, BACKED, and of a bank that no longer holds the station; and with a commit
in progress. -/
theorem witness_CompleteRevolutionIsHandedOver : (∀ s ∈ [receiving 1, backedClosing, reopened], s.Rested ∧
      s.EvaluationsBegun ∧ s.control.survey = .running ∧ s.sweep.intake = .opened ∧ s.sweep.receiver = .receiving ∧
      s.sweep.current = some revolution100 ∧ revolution100.tag = some ({ bank := .bank0, opening := 7 } : Tag) ∧
      s.calibration.nmin ≤ (s.buffer revolution100.buffer).samples.length ∧
      (s.buffer revolution100.buffer).samples.length ≤ s.calibration.nmax) ∧
    (101 : BitVec 16) = revolution100.opening + 1 ∧ (1 : BitVec 8).getLsbD 1 = false ∧
    ((receiving 1).AnswersTag (some { bank := .bank0, opening := 7 }) ∧ backedClosing.AnswersTag none ∧
      reopened.AnswersTag (some { bank := .bank0, opening := 8 })) ∧
    ((receiving 1).chainage.tracker = .tracking ∧ ((receiving 1).bank .bank0).phase = .opened ∧
      (receiving 1).sweep.handover = [] ∧ (receiving 1).holdsTag { bank := .bank0, opening := 7 } = true) ∧
    (reopened.holdsTag { bank := .bank0, opening := 7 } = false ∧ reopened.accumulator.commit = none ∧
      reopened.sweep.handover = []) ∧
    (backedClosing.chainage.tracker = .backed ∧ (backedClosing.bank .bank0).phase = .closing ∧
      backedClosing.holdsTag { bank := .bank0, opening := 7 } = true ∧
      backedClosing.accumulator.evaluationOrder = [.bank0] ∧ (backedClosing.bank .bank0).inHand = 1 ∧
      (backedClosing.bank .bank0).committed ≠ 0 ∧ backedClosing.accumulator.commit = none ∧
      backedClosing.sweep.handover = []) ∧
    (∀ s, s = committingAndReceiving → s.Rested ∧ s.EvaluationsBegun ∧ s.sweep.receiver = .receiving ∧
      s.AnswersTag (some { bank := .bank0, opening := 7 }) ∧ s.accumulator.commit ≠ none ∧
      ∃ r, s.sweep.current = some r ∧ r.tag = some { bank := .bank0, opening := 7 } ∧ r.opening = 101 ∧
        (s.buffer r.buffer).samples.length = 1) := by
  refine ⟨?_, by decide, by decide, ⟨answersTag_some .bank0 (by decide), answersTag_none rfl,
    answersTag_some .bank0 (by decide)⟩, by decide, by decide, by decide, ?_⟩
  · intro s hs
    simp only [List.mem_cons, List.not_mem_nil, or_false] at hs
    rcases hs with rfl | rfl | rfl <;>
      exact ⟨restedNow (by decide), fun i hi _ => (by cases hi <;> decide), rfl, rfl, rfl, rfl, rfl, by decide, by decide⟩
  · rintro s rfl
    exact ⟨restedNow (by decide), begun (by decide), by decide, answersTag_some .bank0 (by decide), by decide, _, rfl,
      by decide, by decide, by decide⟩

/-- One sample short of Nmin; and, by a SLOW MARK, the last revolution of a CLOSING station and one of two. -/
theorem witness_IncompleteRevolutionIsDiscarded :
    (∀ s ∈ [receiving 0, closedWith 1 1, closedWith 0 2], Spoiling s ∧ s.LeavesNoneEmpty revolution100.tag ∧
      (s.accumulator.commit ≠ none ∨ s.sweep.handover = [])) ∧
    (receiving 0).AnswersTag (some { bank := .bank0, opening := 7 }) ∧
    (∀ s ∈ [closedWith 1 1, closedWith 0 2], s.AnswersTag (some { bank := .bank1, opening := 8 })) ∧
    ((receiving 0).buffer revolution100.buffer).samples.length < (receiving 0).calibration.nmin ∧
    (101 : BitVec 16) = revolution100.opening + 1 ∧ (2 : BitVec 8).getLsbD 1 = true ∧
    ((closedWith 1 1).bank .bank0).phase = .closing ∧ ((closedWith 0 2).bank .bank0).phase = .closing := by
  refine ⟨?_, answersTag_some .bank0 (by decide), ?_, by decide, by decide, by decide, by decide, by decide⟩
  · intro s hs
    simp only [List.mem_cons, List.not_mem_nil, or_false] at hs
    rcases hs with rfl | rfl | rfl <;>
      exact ⟨⟨restedNow (by decide), fun i hi _ => (by cases i <;> revert hi <;> decide), by decide, by decide, by decide,
        by decide⟩, leavesNoneEmpty (by decide) (by decide), by decide⟩
  · intro s hs
    simp only [List.mem_cons, List.not_mem_nil, or_false] at hs
    rcases hs with rfl | rfl <;> exact answersTag_some .bank1 (by decide)

/-- With a revolution of the OPEN station in hand, with the last of a CLOSING one, and with none. -/
theorem witness_FirstLinkFaultRestartsTheHead : ∀ s ∈ [receiving 3, closedWith 1 1, running], s.Rested ∧
    s.EvaluationsBegun ∧ s.control.survey = .running ∧ s.sweep.latch = false ∧
    s.LeavesNoneEmpty (s.sweep.current.bind Revolution.tag) ∧ s.sweep.intake = .opened ∧ s.sweep.markTimer = true := by
  intro s hs
  simp only [List.mem_cons, List.not_mem_nil, or_false] at hs
  rcases hs with rfl | rfl | rfl <;>
    exact ⟨restedNow (by decide), fun i hi _ => (by cases i <;> revert hi <;> decide), by decide, by decide,
      leavesNoneEmpty (by decide) (by decide), by decide, by decide⟩

theorem witness_SecondLinkFaultOrBusErrorEndsTheSurvey :
    (∃ s : State, s.control.survey ≠ .faulted ∧ s.sweep.latch = true ∧ s.sweep.intake = .opened ∧
      s.sweep.markTimer = true) ∧
    ∃ (s : State) (g : Grant), s.control.survey ≠ .faulted ∧ s.port.grant = some g :=
  ⟨⟨{ running with sweep := { running.sweep with latch := true } }, by decide, rfl, rfl, rfl⟩,
    granted position, position, by decide, rfl⟩

/-- The greatest magnitude R45 admits, with four readings held. -/
theorem witness_GoodReadingJoinsTheHistory : ∃ (v : BitVec 16) (s : State), s.cant.readInFlight = true ∧
    s.cant.history.length ≤ 4 ∧ v.toInt.natAbs ≤ 4500 :=
  ⟨BitVec.ofInt 16 (-4500), { running with cant := { history := [1, 2, 3, 4], failures := 0, readInFlight := true } }, rfl,
    by decide, by decide⟩

theorem witness_FailedReadingRaisesTheFailureCount :
    (∃ s : State, s.cant.readInFlight = true ∧ s.cant.failures = 15 ∧ 4500 < (4501 : BitVec 16).toInt.natAbs) ∧
    ∃ s : State, s.cant.readInFlight = false :=
  ⟨⟨{ running with cant := { history := [1], failures := 15, readInFlight := true } }, rfl, rfl, by decide⟩, running, rfl⟩

theorem witness_OdometerIsCountedOutsideSurveying :
    (∃ s : State, s.chainage.mode = .held) ∧
    (∃ (now r : Levels) (s : State), s.chainage.mode = .counting ∧ s.chainage.lineReference = some r ∧
      validChange r now) ∧
    ∃ (now r : Levels) (s : State), s.chainage.mode = .counting ∧ s.chainage.lineReference = some r ∧
      ¬ validChange r now :=
  ⟨⟨State.reset, rfl⟩,
    ⟨{ line1 := true, line2 := false }, { line1 := false, line2 := false },
      { running with chainage := { running.chainage with mode := .counting } }, rfl, rfl, .inl rfl⟩,
    { line1 := true, line2 := true }, { line1 := false, line2 := false },
    { running with chainage := { running.chainage with mode := .counting } }, rfl, rfl,
    by unfold validChange; decide⟩

/-- A step back from the edge, a step while BACKED short of the peak, and a change of both lines. -/
theorem witness_StepWithinTheStationMovesChainageAndPeak : ∃ (now reference : Levels) (s : State), s.Rested ∧
    s.control.survey = .running ∧ s.chainage.mode = .surveying ∧ s.chainage.lineReference = some reference ∧
    validChange reference now ∧ s.chainage.tracker = .tracking ∧
    s.calibration.direction.behind s.chainage.peak (steppedChainage s.calibration reference now s.chainage.chainage) ≤
      (s.calibration.hysteresis : Int) * 1024 ∧
    (∀ k, s.chainage.openStation = some k →
      s.calibration.direction.ahead (stationNumber s.calibration.stationPitch
        (steppedChainage s.calibration reference now s.chainage.chainage)) k = false) := by
  refine ⟨{ line1 := false, line2 := true }, { line1 := false, line2 := false }, running, running_rested, rfl, rfl, rfl,
    .inr rfl, rfl, by decide, ?_⟩
  intro k hk; cases hk; decide

theorem witness_StepWhileBacked : ∃ (now reference : Levels) (s : State), s.Rested ∧
    s.control.survey = .running ∧ s.chainage.mode = .surveying ∧ s.chainage.lineReference = some reference ∧
    validChange reference now ∧ s.chainage.tracker = .backed ∧
    0 < s.calibration.direction.behind s.chainage.peak
      (steppedChainage s.calibration reference now s.chainage.chainage) :=
  ⟨{ line1 := true, line2 := false }, { line1 := false, line2 := false },
    { running with chainage := { running.chainage with
        chainage := 124997 * 1024, tracker := .backed, openStation := none } },
    rested rfl rfl (by decide) (fun _ => ⟨rfl, rfl, rfl, rfl⟩), rfl, rfl, rfl, .inl rfl, rfl, by decide⟩

theorem witness_IllegalStep : ∃ (now reference : Levels) (s : State), s.Rested ∧ s.control.survey = .running ∧
    s.chainage.mode = .surveying ∧ s.chainage.lineReference = some reference ∧ now.line1 ≠ reference.line1 ∧
    now.line2 ≠ reference.line2 :=
  ⟨{ line1 := true, line2 := true }, { line1 := false, line2 := false }, running, running_rested, rfl, rfl, rfl, by decide,
    by decide⟩

/-- The other bank busy: station 23 EVALUATING in bank 1. -/
def busy : State :=
  { running with accumulator := { running.accumulator with
      evaluationOrder := [.bank1]
      bank1 := { openBank0 with phase := .evaluating, openingNumber := 6, first := 23 } } }

/-- `receiving 3` with a plan PENDING in set Y. -/
def switching : State :=
  { receiving 3 with loader := { running.loader with
      setY := { setX with mark := .pending, references := 0, generation := 22 } } }

/-- A state with a plan PENDING in set Y. -/
def pendingY (s : State) : State :=
  { s with loader := { s.loader with setY := { setX with mark := .pending, references := 0, generation := 22 } } }

/-- `running` with one revolution committed to the open station and none in hand. -/
def oneCommitted : State :=
  { running with accumulator := { running.accumulator with bank0 := { openBank0 with committed := 1 } } }

/-- With a revolution in hand; the same with a set PENDING; with none in hand but one committed, and with none at all, a set
PENDING and none; and with the other bank busy. -/
theorem witness_BoundaryClosesOrStretchesTheStation :
    (∃ (now reference : Levels) (i : BankId) (k x n : Int),
      ∀ s ∈ [receiving 3, switching, oneCommitted, pendingY oneCommitted, running, pendingY running, busy],
      s.Rested ∧ s.control.survey = .running ∧ s.chainage.mode = .surveying ∧ s.chainage.tracker = .tracking ∧
      s.chainage.lineReference = some reference ∧ validChange reference now ∧
      x = steppedChainage s.calibration reference now s.chainage.chainage ∧
      n = stationNumber s.calibration.stationPitch x ∧
      s.calibration.direction.behind s.chainage.peak x ≤ (s.calibration.hysteresis : Int) * 1024 ∧
      s.chainage.openStation = some k ∧ s.calibration.direction.ahead n k = true ∧ s.openBank = some i ∧
      i = .bank0) ∧
    (∀ s ∈ [receiving 3, switching, oneCommitted, pendingY oneCommitted, running, pendingY running], (s.bank .bank1).phase = .free ∧
      (s.bank .bank0).boundaryHeld = false ∧ s.accumulator.evaluationOrder = []) ∧
    ((receiving 3).bank .bank0).inHand ≠ 0 ∧ (receiving 3).pendingSet = none ∧
    (switching.bank .bank0).inHand ≠ 0 ∧ switching.pendingSet = some .y ∧
    (∀ s ∈ [oneCommitted, pendingY oneCommitted], (s.bank .bank0).inHand = 0 ∧ (s.bank .bank0).committed ≠ 0) ∧
    (∀ s ∈ [running, pendingY running], (s.bank .bank0).inHand = 0 ∧ (s.bank .bank0).committed = 0 ∧ s.NoLoadWaits) ∧
    (oneCommitted.pendingSet = none ∧ (pendingY oneCommitted).pendingSet = some .y ∧ running.pendingSet = none ∧
      (pendingY running).pendingSet = some .y) ∧ (busy.bank .bank1).phase ≠ .free := by
  refine ⟨⟨{ line1 := true, line2 := false }, { line1 := false, line2 := false }, .bank0, 24, 125000 * 1024, 25, ?_⟩,
    by decide, by decide, by decide, by decide, by decide, by decide, ?_, by decide, by decide⟩
  · intro s hs
    simp only [List.mem_cons, List.not_mem_nil, or_false] at hs
    rcases hs with rfl | rfl | rfl | rfl | rfl | rfl | rfl <;>
      exact ⟨restedNow (by decide), rfl, rfl, rfl, rfl, .inl rfl, by decide, by decide, by decide, rfl, by decide,
        by decide, rfl⟩
  · intro s hs
    simp only [List.mem_cons, List.not_mem_nil, or_false] at hs
    rcases hs with rfl | rfl <;> exact ⟨rfl, rfl, noLoadWaits rfl⟩

/-- `running` with so many records in the output queue. -/
def queued (n : Nat) : State :=
  { running with sheets := { running.sheets with
      queue := List.replicate n { record := record218, lostBefore := 0 } } }

/-- R132: the EMPTY record of the station the boundary closes is admitted with five records in the queue, and the position block
is to be written; with six it is refused, and no write is called for. -/
theorem test_position_write_of_an_admitted_record :
    (after (.odometerStep true false) (queued 5)).port.burstsOf .control =
      [(after (.odometerStep true false) (queued 5)).positionBurst] ∧
    (after (.odometerStep true false) (queued 6)).port.burstsOf .control = [] := by decide

/-- `running` exactly at the hysteresis behind its peak. -/
def atHysteresis : State := { running with chainage := { running.chainage with chainage := 124699 * 1024 } }

/-- The same with the commit of the last revolution of station 23, CLOSING in bank 1, in progress. -/
def reversingInCommit : State :=
  { atHysteresis with
    sweep := { running.sweep with
      bufferA := { phase := .handed, samples := [{ angle := 0, range := 2741, strength := 20 }] }
      handover := [{ buffer := .a, tag := { bank := .bank1, opening := 6 }, window := false, opening := 90, closing := 91 }] }
    accumulator := { running.accumulator with
      commit := some ({ buffer := .a, tag := { bank := .bank1, opening := 6 }, window := false, cantOffset := 0,
                        cantHeld := true, floor := 8 })
      evaluationOrder := [.bank1]
      bank1 := { openBank0 with phase := .closing, openingNumber := 6, first := 23, inHand := 1, committed := 1 } } }

/-- Exactly at the hysteresis before the step, so 301 mm behind after it; with nothing handed over, and with a commit in
progress. -/
theorem witness_ReversalAbandonsTheOpenStation : ∃ (now reference : Levels) (i o : BankId) (k x : Int),
    (∀ s ∈ [atHysteresis, reversingInCommit], s.Rested ∧ s.NoLoadWaits ∧ s.control.survey = .running ∧
      s.chainage.mode = .surveying ∧ s.chainage.tracker = .tracking ∧ s.chainage.lineReference = some reference ∧
      validChange reference now ∧ x = steppedChainage s.calibration reference now s.chainage.chainage ∧
      (s.calibration.hysteresis : Int) * 1024 < s.calibration.direction.behind s.chainage.peak x ∧
      s.chainage.openStation = some k ∧ s.openBank = some i ∧ o = i.other ∧
      (s.accumulator.evaluationOrder = [] ∨ s.accumulator.evaluationOrder = [o]) ∧ s.sweep.handover.length ≤ 2 ∧
      ((s.bank o).phase = .closing → (s.bank o).committed = 0 → s.handedTo o < (s.bank o).inHand)) ∧
    (reversingInCommit.accumulator.evaluationOrder = [o] ∧ (reversingInCommit.bank o).phase = .closing ∧
      (reversingInCommit.bank o).inHand ≤ reversingInCommit.handedTo o) := by
  refine ⟨{ line1 := false, line2 := true }, { line1 := false, line2 := false }, .bank0, .bank1, 24, 124698 * 1024, ?_,
    by decide⟩
  intro s hs
  simp only [List.mem_cons, List.not_mem_nil, or_false] at hs
  rcases hs with rfl | rfl <;>
    exact ⟨restedNow (by decide), noLoadWaits rfl, rfl, rfl, rfl, rfl, .inr rfl, by decide, by decide, rfl, by decide, rfl,
      by decide, by decide, by decide⟩

/-- One step short of the peak, with no set PENDING and with one. -/
theorem witness_RegainingThePeakResumes : ∃ (now reference : Levels) (i : BankId) (x n : Int),
    (∀ s ∈ [belowPeak, pendingY belowPeak], s.Rested ∧ s.EvaluationsBegun ∧ s.control.survey = .running ∧
      s.chainage.mode = .surveying ∧ s.chainage.tracker = .backed ∧ s.chainage.lineReference = some reference ∧
      validChange reference now ∧ x = steppedChainage s.calibration reference now s.chainage.chainage ∧
      n = stationNumber s.calibration.stationPitch x ∧ s.calibration.direction.behind s.chainage.peak x ≤ 0 ∧
      i = (if s.accumulator.bank0.phase = .free then BankId.bank0 else .bank1) ∧ (s.bank i).phase = .free ∧
      (s.accumulator.commit ≠ none ∨ s.sweep.handover = [])) ∧
    belowPeak.pendingSet = none ∧ (pendingY belowPeak).pendingSet = some .y := by
  refine ⟨{ line1 := true, line2 := false }, { line1 := false, line2 := false }, .bank0, 124999 * 1024, 24, ?_, by decide,
    by decide⟩
  intro s hs
  simp only [List.mem_cons, List.not_mem_nil, or_false] at hs
  rcases hs with rfl | rfl <;>
    exact ⟨restedNow (by decide), begun rfl, rfl, rfl, rfl, rfl, .inl rfl, by decide, by decide, by decide, by decide,
      by decide, .inr rfl⟩

theorem witness_MarkerArrivalIsLatched :
    (∃ s : State, s.chainage.mode = .surveying ∧ s.chainage.tracker = .tracking ∧ s.chainage.marker = none) ∧
    (∃ (s : State) (m : MarkerLatch), s.chainage.mode = .surveying ∧ s.chainage.tracker = .tracking ∧
      s.chainage.marker = some m) ∧ ∃ s : State, s.chainage.mode ≠ .surveying :=
  ⟨⟨running, rfl, rfl, rfl⟩, ⟨after (.markerArrival 812) running, _, rfl, rfl, rfl⟩, State.reset, by decide⟩

/-- `running` with a marker latched, its chainage 124,999 mm less `back` mm. -/
def latched (ident : BitVec 16) (back : Int) : State :=
  { running with chainage := { running.chainage with
      chainage := 124500 * 1024
      marker := some ({ ident := ident, chainage := (124999 - back) * 1024, crowded := false }) } }

/-- An unlisted tag, a listed one 1 mm outside the snap window of 150 mm, and one at its edge. -/
theorem witness_MarkerTakingSnapsOrReports :
    (∀ s ∈ [latched 9 0, latched 812 (-272), latched 812 29], s.Rested ∧ s.control.survey = .running ∧
      s.chainage.mode = .surveying ∧ s.chainage.tracker = .tracking ∧ s.chainage.marker.isSome = true) ∧
    tables.markers.find? (fun x => x.ident == (9 : BitVec 16).toNat) = none ∧
    (latched 812 29).activeTables.markers.find? (fun x => x.ident == (812 : BitVec 16).toNat) =
      some { ident := 812, chainage := 125120 } ∧
    ((125120 : Int) - (124999 - 29) * 1024 / 1024).natAbs = 150 ∧
    (latched 812 29).activeTables.snapWindow = 150 ∧
    150 < ((125120 : Int) - (124999 - (-272)) * 1024 / 1024).natAbs ∧
    (∀ k, (latched 812 29).chainage.openStation = some k →
      (latched 812 29).calibration.direction.ahead (stationNumber (latched 812 29).calibration.stationPitch
        (holdChainage ((latched 812 29).chainage.chainage + (125120 * 1024 - (124999 - 29) * 1024)))) k = false) := by
  refine ⟨?_, by decide, by decide, by decide, by decide, by decide, ?_⟩
  · intro s hs
    simp only [List.mem_cons, List.not_mem_nil, or_false] at hs
    rcases hs with rfl | rfl | rfl <;>
      exact ⟨rested rfl rfl (by decide) (fun _ => ⟨rfl, rfl, rfl, rfl⟩), rfl, rfl, rfl, rfl⟩
  · intro k hk; cases hk; decide

/-- A snap of +121 mm from 124,999 mm into station 25: with a revolution in hand, a set PENDING and none; with none in hand but
one committed; with none at all; and with the other bank busy. -/
theorem witness_SnapReachesTheNextStation :
    (∀ s ∈ [receiving 3, switching, oneCommitted, running, busy].map (after (.markerArrival 812)),
      s.Rested ∧ s.control.survey = .running ∧ s.chainage.mode = .surveying ∧ s.chainage.tracker = .tracking ∧
      s.chainage.marker = some { ident := 812, chainage := 124999 * 1024, crowded := false } ∧
      s.activeTables.markers.find? (fun x => x.ident == (812 : BitVec 16).toNat) =
        some { ident := 812, chainage := 125120 } ∧
      s.activeTables.snapWindow = 150 ∧
      holdChainage (s.chainage.chainage + (125120 * 1024 - 124999 * 1024)) = 125120 * 1024 ∧
      stationNumber s.calibration.stationPitch (125120 * 1024) = 25 ∧ s.chainage.openStation = some 24 ∧
      s.calibration.direction.ahead 25 24 = true ∧ s.openBank = some .bank0) ∧
    ((125120 : Int) - 124999 * 1024 / 1024).natAbs ≤ 150 ∧
    (∀ s ∈ [receiving 3, switching, oneCommitted, running], (s.bank .bank1).phase = .free ∧
      (s.bank .bank0).boundaryHeld = false ∧ s.accumulator.evaluationOrder = [] ∧ s.loader.load = .idle) ∧
    ((receiving 3).bank .bank0).inHand ≠ 0 ∧ (receiving 3).pendingSet = none ∧ switching.pendingSet = some .y ∧
    ((oneCommitted.bank .bank0).inHand = 0 ∧ (oneCommitted.bank .bank0).committed ≠ 0) ∧
    ((running.bank .bank0).inHand = 0 ∧ (running.bank .bank0).committed = 0) ∧ (busy.bank .bank1).phase ≠ .free := by
  refine ⟨?_, by decide, by decide, by decide, by decide, by decide, by decide, by decide, by decide⟩
  intro s hs
  simp only [List.map_cons, List.map_nil, List.mem_cons, List.not_mem_nil, or_false] at hs
  rcases hs with rfl | rfl | rfl | rfl | rfl <;>
    exact ⟨restedNow (by decide), by decide, by decide, by decide, by decide, by decide, by decide, by decide, by decide,
      by decide, by decide, by decide⟩

/-- The commit of revolution 100, its bank OPEN; and with the bank CLOSING, that revolution its last. -/
def committingLast : State :=
  { committing with
    chainage := { running.chainage with chainage := 125000 * 1024, peak := 125000 * 1024, openStation := none }
    accumulator := { committing.accumulator with
      evaluationOrder := [.bank0]
      bank0 := { openBank0 with phase := .closing, endChainage := some 125000, inHand := 1 } } }

/-- What CommitEndFoldsTheRevolution asks of a state, but for EvaluationsBegun. -/
def CommitInHand (s : State) (k : Commit) (h : Handed) (gone rest : List Handed) : Prop := s.Rested ∧
  (s.control.survey = .running ∨ s.control.survey = .stopping) ∧ s.accumulator.commit = some k ∧
  s.sweep.handover = h :: (gone ++ rest) ∧ h.buffer = k.buffer ∧ s.holdsTag k.tag = true ∧
  gone.length ≤ 1 ∧ (∀ x ∈ gone, s.holdsTag x.tag = false) ∧
  (rest = [] ∨ ∃ next, rest = [next] ∧ s.chainage.tracker = .tracking ∧ s.holdsTag next.tag = true ∧
    ((s.bank next.tag.bank).phase = .opened ∨ (s.bank next.tag.bank).phase = .closing))

/-- `bothHanded` with revolution 101 tagged with a station that no bank holds. -/
def handedOfNoBank : State :=
  { bothHanded with sweep := { bothHanded.sweep with
      handover := bothHanded.sweep.handover.map fun h =>
        if h.buffer = .b then { h with tag := { bank := .bank1, opening := 6 } } else h } }

/-- The bank OPEN; two buffers handed over, and the second of them of a station no bank holds; and, in RUNNING and after a
STOP_FINISH, the bank CLOSING and the revolution its last. -/
theorem witness_CommitEndFoldsTheRevolution :
    (committing.EvaluationsBegun ∧ ∃ k h, CommitInHand committing k h [] []) ∧
    (bothHanded.EvaluationsBegun ∧ ∃ k h next, CommitInHand bothHanded k h [] [next]) ∧
    (handedOfNoBank.EvaluationsBegun ∧ ∃ k h x, CommitInHand handedOfNoBank k h [x] []) ∧
    (∀ s ∈ [committingLast, after (.stopFinish 0) committing], s.EvaluationsBegun ∧
      (∃ k h, k.tag.bank = .bank0 ∧ CommitInHand s k h [] []) ∧ s.accumulator.bank0.phase = .closing ∧
      s.accumulator.bank0.inHand = 1 ∧ s.accumulator.evaluationOrder.head? = some .bank0) ∧
    (after (.stopFinish 0) committing).control.survey = .stopping := by
  refine ⟨⟨begun (by decide), _, _, restedNow (by decide), by decide, rfl, rfl, rfl, by decide, by decide,
      (fun _ h => nomatch h), .inl rfl⟩,
    ⟨begun (by decide), _, _, _, restedNow (by decide), by decide, rfl, rfl, rfl, by decide, by decide,
      (fun _ h => nomatch h), .inr ⟨_, rfl, by decide, by decide, by decide⟩⟩,
    ⟨begun (by decide), _, _, _, restedNow (by decide), by decide, rfl, rfl, rfl, by decide, by decide, by decide,
      .inl rfl⟩, ?_, by decide⟩
  intro s hs
  simp only [List.mem_cons, List.not_mem_nil, or_false] at hs
  rcases hs with rfl | rfl <;>
    exact ⟨fun i hi _ => (by cases hi <;> decide),
      ⟨_, _, rfl, restedNow (by decide), by decide, rfl, rfl, rfl, by decide, by decide, (fun _ h => nomatch h),
        .inl rfl⟩,
      by decide, by decide, by decide⟩

/-- The record of station 24 within the table of 150 records; in RUNNING and after a STOP_FINISH. -/
theorem witness_EvaluationPassEndHandsTheBankOn : (∀ s ∈ [assessing, after (.stopFinish 0) assessing],
    s.Rested ∧ (s.control.survey = .running ∨ s.control.survey = .stopping) ∧ s.DrainGoesOn ∧
    s.evaluator.phase = .assessing ∧ s.evaluator.bank = some .bank0 ∧ s.evaluator.summary = .start ∧
    (s.boundParameters .bank0).baselineUse = true ∧ (s.boundTables .bank0).baseline.count = 150 ∧
    s.accumulator.bank0.first = 24) ∧ (after (.stopFinish 0) assessing).control.survey = .stopping := by
  refine ⟨?_, by decide⟩
  intro s hs
  simp only [List.mem_cons, List.not_mem_nil, or_false] at hs
  rcases hs with rfl | rfl <;>
    exact ⟨restedNow (by decide), by decide, by unfold State.DrainGoesOn; decide, by decide, by decide, by decide, by decide,
      by decide, by decide⟩

/-- `comparing` with its other bank as given. -/
def comparingBeside (b : Bank) : State :=
  { comparing with accumulator := { comparing.accumulator with bank1 := b } }

/-- The bank of station 25 in `comparing`. -/
def bank25 : Bank := comparing.accumulator.bank1

/-- Station 25 stretched, its boundary held; the chainage at the first millimetre of station 26. -/
def heldAt26 : State :=
  { comparingBeside { bank25 with boundaryHeld := true, inHand := 1 } with
    chainage := { comparing.chainage with chainage := 130000 * 1024, peak := 130000 * 1024 } }

/-- Set Y ACTIVE, and a load that waits for set X, referenced by the bank under comparison alone. -/
def waitingFor (offset : Nat) : State :=
  { comparingBeside { bank25 with planReference := some { set := .y, generation := 22 } } with
    loader := { running.loader with
      setX := { setX with mark := .unmarked }, setY := { setX with generation := 22 }, load := .waiting .x offset } }

/-- `comparing` while BACKED, no station open. -/
def comparingLast : State :=
  { comparingBeside Bank.reset with chainage := { comparing.chainage with tracker := .backed, openStation := none } }

/-- What each clause of ComparisonPassEndReleasesTheStation asks. -/
def Comparing (s : State) (rest : List BankId) : Prop := s.Rested ∧ s.comparator.phase = .comparing ∧
  s.comparator.bank = some .bank0 ∧ s.comparator.rail.isSome = true ∧ s.accumulator.evaluationOrder = .bank0 :: rest

/-- The other bank OPEN in RUNNING, or CLOSING behind with a revolution in hand in STOPPING; a held boundary set aside at
125,000 mm and taken at 130,000 mm; the next bank begun in STOPPING; a load begun with its header at the area's end and one
refused 4 bytes past it; and the end of a drain. -/
theorem witness_ComparisonPassEndReleasesTheStation :
    (Comparing comparing [] ∧ comparing.control.survey = .running ∧ (comparing.bank .bank1).boundaryHeld = false ∧
      comparing.NoLoadWaits) ∧
    (∀ s, s = after (.stopFinish 0) (comparingBeside { bank25 with inHand := 1 }) → Comparing s [.bank1] ∧
      s.control.survey = .stopping ∧ (s.bank .bank1).phase = .closing ∧ (s.bank .bank1).inHand = 1 ∧
      (s.bank .bank1).boundaryHeld = false ∧ s.NoLoadWaits) ∧
    (∀ s ∈ [comparingBeside { bank25 with boundaryHeld := true }, heldAt26, pendingY heldAt26], Comparing s [] ∧
      s.control.survey = .running ∧ s.openBank = some .bank1 ∧ (s.bank .bank1).boundaryHeld = true ∧ s.NoLoadWaits) ∧
    (heldAt26.pendingSet = none ∧ (pendingY heldAt26).pendingSet = some .y) ∧
    (Direction.ahead .forward (stationNumber 5000 comparing.chainage.chainage) bank25.first = false ∧
      heldAt26.calibration.direction.ahead (stationNumber heldAt26.calibration.stationPitch heldAt26.chainage.chainage)
        (heldAt26.bank .bank1).first = true ∧ (heldAt26.bank .bank1).inHand ≠ 0) ∧
    (∀ s, s = after (.stopFinish 0) (comparingBeside { bank25 with committed := 1 }) → Comparing s [.bank1] ∧
      s.control.survey = .stopping ∧ (s.bank .bank1).phase = .closing ∧ (s.bank .bank1).inHand = 0 ∧
      (s.bank .bank1).committed ≠ 0 ∧ (s.bank .bank1).boundaryHeld = false ∧ s.NoLoadWaits) ∧
    (∀ q : Nat, Comparing (waitingFor q) [] ∧ (waitingFor q).control.survey = .running ∧
      ((waitingFor q).bank .bank1).boundaryHeld = false ∧ (waitingFor q).loader.load = .waiting .x q ∧
      ((waitingFor q).planSet .x).references = 1 ∧
      (((waitingFor q).bank .bank0).planReference.map PlanReference.set) = some .x ∧
      ((waitingFor q).control.geometry.map Geometry.areaSize).getD 0 = 65448 + 88) ∧
    (∀ s, s = after (.stopFinish 0) comparingLast → Comparing s [] ∧ s.control.survey = .stopping ∧
      s.control.stopPhase = .draining ∧ (s.bank .bank1).phase = .free ∧ s.sweep.handover = [] ∧ s.NoLoadWaits) := by
  refine ⟨⟨⟨restedNow (by decide), rfl, rfl, rfl, rfl⟩, rfl, rfl, noLoadWaits rfl⟩, ?_, ?_, by decide, by decide, ?_, ?_,
    ?_⟩
  · rintro s rfl
    exact ⟨⟨restedNow (by decide), by decide, by decide, by decide, by decide⟩, by decide, by decide, by decide, by decide,
      noLoadWaits (by decide)⟩
  · intro s hs
    simp only [List.mem_cons, List.not_mem_nil, or_false] at hs
    rcases hs with rfl | rfl | rfl <;>
      exact ⟨⟨restedNow (by decide), rfl, rfl, rfl, rfl⟩, rfl, by decide, rfl, noLoadWaits rfl⟩
  · rintro s rfl
    exact ⟨⟨restedNow (by decide), by decide, by decide, by decide, by decide⟩, by decide, by decide, by decide, by decide,
      by decide, noLoadWaits (by decide)⟩
  · intro q
    exact ⟨⟨rested rfl rfl (fun h => nomatch h) (fun _ => ⟨rfl, rfl, rfl, rfl⟩), rfl, rfl, rfl, rfl⟩, rfl, rfl, rfl, rfl,
      rfl, rfl⟩
  · rintro s rfl
    exact ⟨⟨restedNow (by decide), by decide, by decide, by decide, by decide⟩, by decide, by decide, by decide, by decide,
      noLoadWaits (by decide)⟩

theorem witness_CompletedWriteIsLittleEndian :
    (granted position).port.grant = some position ∧ position.burst.transfer = .write [0x00010002, 124999, 24, 21] ∧
    (granted (reading .control .areaHeader 6)).port.grant = some (reading .control .areaHeader 6) ∧
    position.base.toNat + position.burst.offset = 65560 := by decide

/-- STARTING with the reads of a START in progress. -/
def starting (phase : StartPhase) (g : Grant) : State :=
  { State.reset with
    control := { State.reset.control with survey := .starting, startPhase := phase, area := 0x10000 }
    port := { State.reset.port with grant := some g } }

theorem starting_rested (p : StartPhase) (g : Grant) : (starting p g).Rested :=
  rested rfl rfl (fun h => nomatch h) (fun h => nomatch h)

/-- The six leading fields of the area header, with a given size, offset of the calibration block, and sheet count. -/
def headerWords (size calibration count : Word) : Vector Word 16 :=
  #v[0x4E36A001, size, calibration, count, 8192, 4096, 0, 0, 0, 0, 0, 0, 0, 0, 0, 0]

/-- The code and the offset R165 gives six words of the area header under an AREA, written as the statement writes it. -/
def headerFault (area : Nat) (ws : List Word) : Option (Nat × Nat) :=
  if wordAt ws 0 ≠ 0x4E36A001 then some (1, 0)
  else if natAt ws 3 < 2 ∨ 16 < natAt ws 3 then some (2, 12)
  else if natAt ws 1 % 4 ≠ 0 ∨ natAt ws 1 < 168 ∨ 4294967296 < area + natAt ws 1 then some (3, 4)
  else if natAt ws 2 % 4 ≠ 0 then some (3, 8)
  else if natAt ws 5 % 4 ≠ 0 ∨ natAt ws 5 < 168 ∨ natAt ws 1 < natAt ws 5 + natAt ws 3 * natAt ws 4 then some (3, 20)
  else if natAt ws 4 < 4096 ∨ 65536 < natAt ws 4 ∨ natAt ws 4 % 4096 ≠ 0 then some (6, 16)
  else none

/-- The geometry of the area of `headerWords 36864 36776 4`. -/
def geometry : Geometry :=
  { areaSize := 36864, calibrationOffset := 36776, sheetCount := 4, sheetSize := 8192, sheetBase := 4096 }

/-- A calibration block, each field at a bound of its range, with a given cant zero offset (in words at offset 52). -/
def calibrationBlock (cantZero : Word) : List Word :=
  [0, 1, 65535, 100000, 100, 1000, 15, 63, 511, 2000, 16383, 256, 256, cantZero, 0, 0, 0, 0, 0, 0, 0, 0]

/-- STARTING, a burst of the calibration read granted: the first 16 words, or the last 6 when 16 have come. The plan of START
lies at a given offset. -/
def calibrating (had : List Word) (n : Nat) (plan : BitVec 24) : State :=
  let s := starting .calibration (reading .loader .calibration n)
  { s with
    control := { s.control with geometry := some geometry, planOffset := plan }
    loader := { s.loader with calibrationWords := had } }

/-- Accepted with the sheets ending at the area's end and the calibration block too; refused with a sheet count of 1, and with
that block 4 bytes past the end. The first burst of the block; a cant zero offset of 4501 refused at offset 52; one of 4500
taken, the plan's header ending at the area's end and 4 bytes past it. -/
theorem witness_AreaHeaderAndCalibrationAreJudged :
    (∃ (s : State) (g : Grant), s.Rested ∧ s.control.survey = .starting ∧ s.control.geometry = none ∧
      s.port.grant = some g ∧ g.abandoned = false ∧ g.burst.purpose = .areaHeader ∧ g.burst.transfer = .read 6 ∧
      headerFault s.control.area.toNat ((headerWords 36864 36776 4).toList.take 6) = none ∧
      headerFault s.control.area.toNat ((headerWords 36864 36780 4).toList.take 6) = none ∧
      headerFault s.control.area.toNat ((headerWords 36864 36776 1).toList.take 6) = some (2, 12)) ∧
    (natAt ((headerWords 36864 36776 4).toList.take 6) 2 + 88 = natAt ((headerWords 36864 36776 4).toList.take 6) 1 ∧
      natAt ((headerWords 36864 36780 4).toList.take 6) 1 < natAt ((headerWords 36864 36780 4).toList.take 6) 2 + 88) ∧
    (∀ (had : List Word) (n : Nat) (plan : BitVec 24), ∃ g : Grant, (calibrating had n plan).Rested ∧
      (calibrating had n plan).control.survey = .starting ∧ (calibrating had n plan).port.grant = some g ∧
      g.abandoned = false ∧ g.burst.purpose = .calibration ∧ g.burst.transfer = .read n ∧
      (calibrating had n plan).control.geometry = some geometry ∧ (calibrating had n plan).loader.calibrationWords = had ∧
      (calibrating had n plan).control.planOffset = plan) ∧
    ((calibrationBlock 4501).length = 22 ∧ ¬ calibrationFieldHolds (calibrationBlock 4501) 52 ∧
      ∀ lower, lower < 52 → calibrationFieldHolds (calibrationBlock 4501) lower) ∧
    (∀ offset, calibrationFieldHolds (calibrationBlock 4500) offset) ∧
    (geometry.areaSize = (36776 : BitVec 24).toNat + 88 ∧ geometry.areaSize < (36780 : BitVec 24).toNat + 88) := by
  refine ⟨⟨starting .header (reading .control .areaHeader 6), _, starting_rested _ _, rfl, rfl, rfl, rfl, rfl, rfl,
    by decide, by decide, by decide⟩, by decide, ?_, ⟨rfl, ?_, ?_⟩, ?_, by decide⟩
  · intro had n plan
    exact ⟨_, rested rfl rfl (fun h => nomatch h) (fun h => nomatch h), rfl, rfl, rfl, rfl, rfl, rfl, rfl, rfl⟩
  · unfold calibrationFieldHolds; decide
  · intro lower h; unfold calibrationFieldHolds; and_intros <;> intro e <;> first | omega | decide
  · intro offset; unfold calibrationFieldHolds; and_intros <;> intro _ <;> decide

/-- The header words of a plan of one template, given the place of the template of straight line; its radii follow, 0. -/
def planHeaderWords (straight : Word) : List Word :=
  [0x4E36A002, 22, 0, 0, 1, 0, straight, 150, 40, 20, 12, 0, 0, 0, 0, 0, 15, 50, 10, 8, 0, 0]

/-- RUNNING, the last burst of a plan's arrays granted: 134 words have come and 16 are to come. -/
def loading (straight : Word) : State :=
  { granted (reading .loader .planArrays 16) with
    loader := { running.loader with
      load := .copying .y 0x8000 .arrays (planHeaderWords straight ++ List.replicate 112 0) } }

/-- All 150 words of that plan. -/
def planWords (straight : Word) : List Word := planHeaderWords straight ++ List.replicate 128 0

theorem radiiAre0 (straight : Word) (k : Nat) : halfAt (planWords straight) 22 k = 0 := by
  have word : wordAt (planWords straight) (22 + k / 2) = 0 := by
    unfold wordAt planWords
    rw [List.getD_eq_getElem?_getD, List.getElem?_append_right (Nat.le_add_right 22 (k / 2)), List.getElem?_replicate]
    split <;> rfl
  unfold halfAt
  rw [word]
  simp

theorem soundPlan : planArraysRefusal 0x8000 (planWords 0) = none := by
  have counts : zoneCount (planWords 0) = 0 ∧ bandCount (planWords 0) = 0 ∧ templateCount (planWords 0) = 1 ∧
      markerCount (planWords 0) = 0 := by decide
  have range : firstFailing (rangeChecks (planWords 0)) = none := by
    rw [firstFailing_eq_none]
    simp only [rangeChecks, counts, templateWord]
    simp only [List.mem_append, List.mem_flatMap, List.mem_map, List.mem_range]
    rintro c ((((( h | h ) | ⟨i, h, -⟩) | ⟨i, h, -⟩) | ⟨i, hi, k, -, rfl⟩) | ⟨i, h, -⟩) <;> try exact absurd h (Nat.not_lt_zero i)
    · revert h; revert c; decide
    · revert h; revert c; decide
    · have hi : i = 0 := by omega
      subst hi
      show within 0 16383 (halfAt (planWords 0) 22 k : Int) = true
      rw [radiiAre0]
      decide
  have order : firstFailing (orderChecks (planWords 0)) = none := by
    simp only [orderChecks, counts]; decide
  have places : firstFailing (referenceChecks (planWords 0)) = none := by
    simp only [referenceChecks, counts]; decide
  simp only [planArraysRefusal, order, places, range]

/-- STARTING in phase PLAN, with the calibration and the geometry of the running survey and a load as given. -/
def startingPlan (load : Load) (g : Grant) : State :=
  let s := starting .plan g
  { s with
    control := { s.control with geometry := running.control.geometry }
    loader := { running.loader with setX := PlanSet.reset, load := load } }

/-- RUNNING with a load as given. -/
def runningPlan (load : Load) (g : Grant) : State :=
  { granted g with loader := { running.loader with load := load } }

/-- The code and the offset R115 and R116 give the header of a plan at an offset in an area of a size, written as the
statement writes it. -/
def planHeaderFault (q size : Nat) (all : List Word) : Option (Nat × Nat) :=
  if wordAt all 0 ≠ 0x4E36A002 then some (1, q)
  else if 64 < natAt all 2 then some (2, q + 8) else if 8 < natAt all 3 then some (2, q + 12)
  else if natAt all 4 < 1 ∨ 8 < natAt all 4 then some (2, q + 16) else if 128 < natAt all 5 then some (2, q + 20)
  else if 65535 < natAt all 14 then some (2, q + 56)
  else if size < q + (88 + 36 * natAt all 2 + 12 * natAt all 3 + 512 * natAt all 4 + 8 * natAt all 5) then some (3, q)
  else if 1 ≤ natAt all 14 ∧ (natAt all 12 % 4 ≠ 0 ∨ size < natAt all 12 + 520 * natAt all 14) then some (3, q + 48)
  else none

/-- In RUNNING and in STARTING: the first and the last burst of the header, the plan of 600 bytes accepted at 64,936, where it
ends at the area's end, and refused 4 bytes on; a burst of the arrays, the last but one; and the last, accepted with template
0, and refused with BAD_REF where the straight template is one past the last. -/
theorem witness_PlanArrivedIsLoadedOrRefused :
    (∀ (load : Load) (p : Purpose) (n : Nat) (f : Load → Grant → State), f = startingPlan ∨ f = runningPlan →
      let s := f load (reading .loader p n)
      s.Rested ∧ s.port.grant = some (reading .loader p n) ∧ s.loader.load = load ∧
        (s.control.survey = .running ∨ s.control.survey = .starting) ∧
        (s.control.geometry.map Geometry.areaSize).getD 0 = 65536) ∧
    (([] : List Word).length + 16 < 22 ∧ ((planHeaderWords 0).take 16).length + 6 = (planHeaderWords 0).length ∧
      (planHeaderWords 0).length = 22 ∧ planHeaderFault 64936 65536 (planHeaderWords 0) = none ∧
      planHeaderFault 64940 65536 (planHeaderWords 0) = some (3, 64940)) ∧
    (planLength (planWords 0) / 4 = 150 ∧ (planWords 0).length = 150 ∧ (planWords 1).length = 150 ∧
      planHeaderWords 0 ++ List.replicate 112 0 ++ (Vector.replicate 16 (0 : Word)).toList.take 16 = planWords 0 ∧
      (∀ code offset, ¬ planFails (planWords 0) code offset) ∧ planFails (planWords 1) 5 24) := by
  have length (straight : Word) : (planWords straight).length = 150 := by simp [planWords, planHeaderWords]
  refine ⟨?_, by decide, by decide, length 0, length 1, rfl, (planArraysRefusal_eq_none 0x8000 _).1 soundPlan,
    (planArraysRefusal_eq_some 0x8000 _ .badRef 24).1 (by decide)⟩
  rintro load p n f (rfl | rfl)
  · exact ⟨rested rfl rfl (fun h => nomatch h) (fun h => nomatch h), rfl, rfl, .inr rfl, rfl⟩
  · exact ⟨rested rfl rfl (fun h => nomatch h) (fun h => nomatch h), rfl, rfl, .inl rfl, rfl⟩

/-- R114: the first burst of the arrays of a plan of one zone and one band brings both into the target set; of the template, 4
words of 128, nothing. -/
theorem test_arrays_are_copied_as_they_arrive :
    let t := after (.burstComplete (Vector.replicate 16 1)) (runningPlan
      (.copying .y 0x8000 .arrays [0x4E36A002, 22, 1, 1, 1, 0, 0, 150, 40, 20, 12, 0, 0, 0, 0, 0, 15, 50, 10, 8, 0, 0])
      (reading .loader .planArrays 16))
    t.loader.setY.tables.zones.map Zone.past = [1] ∧ t.loader.setY.tables.bands.map Band.limit = [1] ∧
      t.loader.setY.tables.templates = [] ∧ t.loader.setY.status = .invalid := by decide

/-- RUNNING, the ninth burst of the baseline record of station 24 in bank 0 granted. -/
def recordArriving : State :=
  { granted (reading .comparator .baseline 2) with
    accumulator := assessing.accumulator
    comparator := { comparing.comparator with phase := .reading, record := 24 :: List.replicate 127 0 } }

/-- The record is of the station, and its flags word carries no WITHHELD. -/
theorem witness_BaselineRecordIsJudged : ∃ (g : Grant) (i : BankId) (n : Nat), recordArriving.Rested ∧
    recordArriving.control.survey = .running ∧ recordArriving.port.grant = some g ∧ g.abandoned = false ∧
    g.burst.purpose = .baseline ∧ g.burst.transfer = .read n ∧ recordArriving.comparator.bank = some i ∧
    recordArriving.comparator.record.length + n = 130 ∧
    (wordAt recordArriving.comparator.record 0).toInt = (recordArriving.bank i).first ∧
    (wordAt recordArriving.comparator.record 1).getLsbD 0 = false :=
  ⟨_, .bank0, 2, rested rfl rfl (fun h => nomatch h) (fun h => nomatch h), rfl, rfl, rfl, rfl, rfl, rfl,
    by simp [recordArriving], by decide, by decide⟩

/-- STARTING in INITIALISING, the last QUEUED roster entry granted, one sheet only. -/
def initialising : State :=
  { starting .initialising (writing .queuedEntry) with
    loader := { running.loader with setX := { setX with references := 0 } }
    sheets := { SheetWriter.reset with sheetCount := 1, sheetSize := 8192, sheetBase := 4096 } }

theorem witness_StartCompletesAtTheLastRosterWrite : ∃ (s : State) (g : Grant) (ws : List Word), s.Rested ∧
    s.control.survey = .starting ∧ s.control.startPhase = .initialising ∧ s.port.grant = some g ∧ g.abandoned = false ∧
    g.burst.purpose = .queuedEntry ∧ g.burst.transfer = .write ws ∧
    (∀ b ∈ s.port.writerQueue, b.purpose ≠ .queuedEntry) ∧ s.loader.setX.mark = .active ∧
    s.accumulator.bank0.phase = .free ∧ s.sheets.queue = [] ∧ s.sheets.filling = none ∧ s.sheets.drain = .still ∧
    1 ≤ s.sheets.sheetCount :=
  ⟨initialising, _, _, rested rfl rfl (fun h => nomatch h) (fun h => nomatch h), rfl, rfl, rfl, rfl, rfl, rfl,
    fun _ h => (by cases h), rfl, rfl, rfl, rfl, rfl, Nat.le_refl 1⟩

/-- What WrittenRecordLeavesTheQueue asks of a state, a burst of the Sheet Writer's of a purpose granted. -/
def WritesHead (s : State) (p : Purpose) (q : Queued) (rest : List Queued) : Prop := s.Rested ∧
  (s.control.survey = .running ∨ s.control.survey = .stopping) ∧ s.DrainGoesOn ∧ s.port.grant = some (writing p) ∧
  s.sheets.queue = q :: rest ∧ s.sheets.filling.isSome = true ∧ ∀ b ∈ s.port.writerQueue, b.purpose ≠ .record

/-- RUNNING or STOPPING with a queue of records, its head being begun or written. -/
def writingHead (control : SurveyControl) (p : Purpose) (queue : List Queued) (endWaits : Bool) : State :=
  { granted (writing p) with
    control := control
    sheets := { running.sheets with queue := queue, drain := .writing, endWaiting := endWaits } }

def station218 : Queued := { record := record218, lostBefore := 0 }

def queuedEnd : Queued := { record := endRecord .finish 0 0 0, lostBefore := 0 }

/-- The control unit of a stop of FINISH in phase ENDING. -/
def endingControl : SurveyControl :=
  { running.control with survey := .stopping, stopPhase := .ending, stopMode := .finish }

/-- A record begun, in RUNNING and in STOPPING; a station record written in RUNNING, and, with END waiting for its room, at
the head of a full queue in STOPPING; and END itself written. -/
theorem witness_WrittenRecordLeavesTheQueue :
    WritesHead (writingHead running.control .fillingEntry [station218] false) .fillingEntry station218 [] ∧
    WritesHead (writingHead endingControl .fillingEntry [queuedEnd] false) .fillingEntry queuedEnd [] ∧
    WritesHead (writingHead running.control .record [station218] false) .record station218 [] ∧
    WritesHead (writingHead endingControl .record (List.replicate 8 station218) true) .record station218
      (List.replicate 7 station218) ∧
    WritesHead (writingHead endingControl .record [queuedEnd] false) .record queuedEnd [] := by
  refine ⟨?_, ?_, ?_, ?_, ?_⟩ <;>
    exact ⟨rested rfl rfl (fun h => nomatch h) (fun h => nomatch h), by decide, (by unfold State.DrainGoesOn; decide), rfl, rfl,
      rfl, fun _ h => nomatch h⟩

/-- Fields at their bounds: a measured chainage past 32 bits, its error held; the faults and the last good number of a LINK
record; and the position block of `running`. -/
theorem witness_RecordFields :
    (markerRecord 812 2147483648 (some 0) false true).body = [812, 0x7FFFFFFF, 0, 0x80000001] ∧
    (markerRecord 65535 (-1) none false false).body = [0xFFFF, 0xFFFFFFFF, 0x80000000, 0x80000000] ∧
    (linkRecord .timeout none 65535 (-1)).body = [1, 0xFFFF0000, 0xFFFFFFFF] ∧
    (planRecord .switch .y 65535 0xA000 (-1) 1023).body = [0x0201FFFF, 0xA000, 0xFFFFFFFF, 0] ∧
    running.positionBurst.transfer = .write [0x00010002, 124999, 24, 21] := by decide

/-- What ClosedSheetIsAnnounced asks of a state. -/
def ClosingLast (s : State) : Prop := s.Rested ∧ s.port.grant = some (writing .closedEntry) ∧
  s.sheets.filling.isSome = true

/-- RUNNING or STOPPING with the CLOSED entry of the filling sheet being written. -/
def closing (control : SurveyControl) (queue : List Queued) (free closed : List Nat) (written : Option Word) : State :=
  { granted (writing .closedEntry) with
    control := control
    sheets := { running.sheets with
      queue := queue, freeSheets := free, closedSheets := closed, drain := .closing, endWritten := written } }

/-- In RUNNING and in a stop: with nothing queued, with a record and a sheet for it, and with a record and no sheet free. At the
end of a stop: with sheets in the free sheet queue and with none. -/
theorem witness_ClosedSheetIsAnnounced :
    (∀ control ∈ [running.control, endingControl], ∀ queue ∈ [[], [station218]], ∀ free ∈ [[1, 2, 3], []],
      let s := closing control queue free [] none
      ClosingLast s ∧ (s.control.survey = .running ∨ s.control.survey = .stopping) ∧ s.DrainGoesOn ∧
        s.sheets.endWritten = none) ∧
    ∀ free : List Nat, let s := closing endingControl [] free [] (some 0x00070202)
      ClosingLast s ∧ s.control.survey = .stopping ∧ s.control.stopPhase = .ending ∧
        s.sheets.endWritten = some 0x00070202 ∧ s.sheets.freeSheets = free := by
  constructor
  · intro control hc queue _ free _
    simp only [List.mem_cons, List.not_mem_nil, or_false] at hc
    rcases hc with rfl | rfl
    · exact ⟨⟨rested rfl rfl (fun h => nomatch h) (fun h => nomatch h), rfl, rfl⟩, .inl rfl, (fun h => nomatch h), rfl⟩
    · exact ⟨⟨rested rfl rfl (fun h => nomatch h) (fun h => nomatch h), rfl, rfl⟩, .inr rfl, (fun _ h => nomatch h), rfl⟩
  · intro free
    exact ⟨⟨rested rfl rfl (fun h => nomatch h) (fun h => nomatch h), rfl, rfl⟩, rfl, rfl, rfl, rfl⟩

/-- STOPPING in ENDING, with a burst of the Sheet Writer's granted. -/
def ending (p : Purpose) (mode : StopMode) : State :=
  { granted (writing p) with
    control := { running.control with survey := .stopping, stopPhase := .ending, stopMode := mode }
    sheets := { running.sheets with endWritten := some 0x00070202, drain := .still, stopMode := mode } }

theorem ending_rested (p : Purpose) (mode : StopMode) : (ending p mode).Rested :=
  rested rfl rfl (fun h => nomatch h) (fun h => nomatch h)

theorem witness_StopEndsAtTheLastHeldWrite : ∃ (s : State) (g : Grant) (ws : List Word) (w : Word), s.Rested ∧
    s.control.survey = .stopping ∧ s.control.stopPhase = .ending ∧ s.port.grant = some g ∧ g.abandoned = false ∧
    g.burst.purpose = .heldEntry ∧ g.burst.transfer = .write ws ∧ (∀ b ∈ s.port.writerQueue, b.purpose ≠ .heldEntry) ∧
    s.sheets.endWritten = some w :=
  ⟨ending .heldEntry .drop, _, _, _, ending_rested _ _, rfl, rfl, rfl, rfl, rfl, rfl, fun _ h => (by cases h), rfl⟩

/-- Nothing pending; and sheet 3 unannounced with the reserved LINK_FAULT pending above it. -/
theorem witness_NoticeReadPresentsAndActs : running.notices.presented = none ∧
    ∃ (s : State) (x : Notice), s.notices.presented = some x ∧ x.kind = .linkFault ∧ s.notices.unannounced ≠ [] :=
  ⟨rfl, { running with notices := { running.notices with
      linkFault := some ({ argument := 100, particulars := 1, more := false }), unannounced := [3] } }, _, rfl, rfl,
    fun h => (by cases h)⟩

theorem witness_WindowWritesAreTakenAsTheTableGives : State.reset.control.survey = .idle ∧
    running.control.survey ≠ .idle := by decide

/-- Sheet 3 in the closed list and sheet 4, the number past the last, not. -/
def closed3 : State :=
  { running with sheets := { running.sheets with closedSheets := [3], freeSheets := [1, 2] } }

theorem witness_RefusedPostChangesOnlyTheLastPost : knownPostKind 0 = false ∧ knownPostKind 7 = false ∧
    running.control.survey ≠ .idle ∧ State.reset.control.survey ≠ .running ∧ State.reset.control.survey ≠ .stopping ∧
    closed3.control.survey = .running ∧ (4 : BitVec 24).toNat ∉ closed3.sheets.closedSheets ∧
    (ending .heldEntry .drop).control.survey = .stopping := by decide

/-- In IDLE with no grant, and with the position block of the last stop being written. -/
theorem witness_StartPostBeginsTheHeaderRead :
    (State.reset.Rested ∧ State.reset.control.survey = .idle ∧ State.reset.port.grant = none) ∧
    ∃ s : State, s.Rested ∧ s.control.survey = .idle ∧ s.port.grant ≠ none :=
  ⟨⟨rested rfl rfl (by decide) (fun _ => ⟨rfl, rfl, rfl, rfl⟩), rfl, rfl⟩,
    { State.reset with port := { State.reset.port with grant := some position } },
    rested rfl rfl (by decide) (fun h => nomatch h), rfl, fun h => nomatch h⟩

/-- A PLAN that waits for set Y; one begun with its header at the area's end, and one whose header runs 4 bytes past it;
and one that supersedes a load. -/
theorem witness_PlanPostSupersedesAndBegins :
    (∃ s : State, s.Rested ∧ s.control.survey = .running ∧ s.loader.setX.mark = .active ∧
      s.loader.setY.status = .loaded ∧ s.loader.setY.mark = .unmarked ∧ 0 < s.loader.setY.references) ∧
    (running.Rested ∧ running.loader.setX.mark = .active ∧ running.loader.setY.status = .invalid ∧
      (running.control.geometry.map Geometry.areaSize).getD 0 = (65448 : BitVec 24).toNat + 88 ∧
      (running.control.geometry.map Geometry.areaSize).getD 0 < (65452 : BitVec 24).toNat + 88) ∧
    ∃ g : Grant, (loading 0).port.grant = some g ∧ g.requester = .loader :=
  ⟨⟨{ running with loader := { running.loader with setY := { setX with mark := .unmarked } } },
    rested rfl rfl (by decide) (fun _ => ⟨rfl, rfl, rfl, rfl⟩), rfl, rfl, rfl, rfl, by decide⟩,
    ⟨running_rested, rfl, rfl, by decide, by decide⟩, _, rfl, rfl⟩

/-- In RUNNING; in STOPPING while the HELD entries are being made; and STARVED. -/
theorem witness_ReturnedSheetIsFreeAgain :
    (closed3.Rested ∧ closed3.control.survey = .running ∧ (3 : BitVec 24).toNat ∈ closed3.sheets.closedSheets ∧
      closed3.sheets.drain ≠ .starved) ∧
    (∃ s : State, s.Rested ∧ s.control.survey = .stopping ∧ s.DrainGoesOn ∧
      (3 : BitVec 24).toNat ∈ s.sheets.closedSheets ∧ s.sheets.drain ≠ .starved ∧ s.sheets.endWritten ≠ none ∧
      s.sheets.filling = none) ∧
    ∃ s : State, s.Rested ∧ s.control.survey = .running ∧ (3 : BitVec 24).toNat ∈ s.sheets.closedSheets ∧
      s.sheets.drain = .starved ∧ s.sheets.freeSheets = [] ∧ s.sheets.endWritten = none :=
  ⟨⟨rested rfl rfl (by decide) (fun _ => ⟨rfl, rfl, rfl, rfl⟩), rfl, by decide, by decide⟩,
    ⟨{ ending .heldEntry .finish with sheets := { running.sheets with
        closedSheets := [0, 3], freeSheets := [1, 2], filling := none, endWritten := some 1, drain := .closing } },
      rested rfl rfl (fun h => nomatch h) (fun h => nomatch h), rfl, (fun _ h => nomatch h), by decide, by decide, by decide, rfl⟩,
    { running with sheets := { running.sheets with
        queue := [station218], freeSheets := [], filling := none, closedSheets := [0, 1, 2, 3], drain := .starved } },
    rested rfl rfl (by decide) (fun _ => ⟨rfl, rfl, rfl, rfl⟩), rfl, by decide, rfl, rfl, rfl⟩

/-- BACKED with no work in hand. -/
def backedEmpty : State :=
  { running with
    chainage := { running.chainage with tracker := .backed, openStation := none }
    accumulator := SectorAccumulator.reset }

/-- `running` with a revolution handed over of a station no bank holds. -/
def handedAlone : State :=
  { running with sweep := { running.sweep with
      handover := [{ buffer := .a, tag := { bank := .bank1, opening := 6 }, window := false, opening := 90, closing := 91 }] } }

/-- BACKED, station 24 under assessment. -/
def backedAssessing : State :=
  { assessing with
    chainage := { assessing.chainage with tracker := .backed, openStation := none }
    accumulator := { assessing.accumulator with bank1 := .reset } }

/-- With a revolution handed over and another being received; behind a bank under assessment; with one revolution committed
and none in hand, and with none, nothing handed over or something; behind a CLOSING bank whose last revolution is being
received; BACKED, with that of a CLOSING bank, and with a bank under assessment; and with no work at all. -/
theorem witness_StopFinishClosesTheOpenStation :
    (∀ s ∈ [committing, assessing, oneCommitted, closedWith 1 1, running, handedAlone, backedClosing, backedAssessing,
      backedEmpty], s.Rested ∧ s.EvaluationsBegun ∧ s.control.survey = .running ∧
      s.LeavesNoneEmpty (s.sweep.current.bind Revolution.tag)) ∧
    ((closedWith 1 1).openBank = some .bank1 ∧ (closedWith 1 1).accumulator.evaluationOrder = [.bank0] ∧
      (closedWith 1 1).lastInHandOf ((closedWith 1 1).sweep.current.bind Revolution.tag) = some .bank0) ∧
    (committing.openBank = some .bank0 ∧ committing.accumulator.evaluationOrder = [] ∧
      (committing.bankAfterDiscard (committing.sweep.current.bind Revolution.tag) .bank0).inHand ≠ 0) ∧
    (assessing.openBank = some .bank1 ∧ BankId.bank1 ∉ assessing.accumulator.evaluationOrder ∧
      assessing.accumulator.evaluationOrder ≠ []) ∧
    (oneCommitted.openBank = some .bank0 ∧ oneCommitted.accumulator.evaluationOrder = [] ∧
      (oneCommitted.bankAfterDiscard none .bank0).inHand = 0 ∧
      (oneCommitted.bankAfterDiscard none .bank0).committed ≠ 0) ∧
    ((∀ s ∈ [running, handedAlone], s.openBank = some .bank0 ∧ s.accumulator.evaluationOrder = [] ∧
        (s.bankAfterDiscard none .bank0).inHand = 0 ∧ (s.bankAfterDiscard none .bank0).committed = 0 ∧
        (s.bank .bank1).phase = .free ∧ s.sweep.current = none) ∧
      running.sweep.handover = [] ∧ handedAlone.sweep.handover ≠ []) ∧
    ((∀ s ∈ [backedClosing, backedAssessing], (s.bank .bank0).phase ≠ .opened ∧ (s.bank .bank1).phase ≠ .opened ∧
        (s.bank .bank0).phase ≠ .free) ∧
      backedClosing.lastInHandOf (backedClosing.sweep.current.bind Revolution.tag) = some .bank0) ∧
    (∀ i, (backedEmpty.bank i).phase = .free) ∧ backedEmpty.sweep.handover = [] ∧
    backedEmpty.accumulator.evaluationOrder = [] := by
  refine ⟨?_, by decide, by decide, by decide, by decide, by decide, by decide, fun i => (by cases i <;> rfl), rfl, rfl⟩
  intro s hs
  simp only [List.mem_cons, List.not_mem_nil, or_false] at hs
  rcases hs with rfl | rfl | rfl | rfl | rfl | rfl | rfl | rfl | rfl <;>
    exact ⟨restedNow (by decide), fun i hi => (by cases i <;> revert hi <;> decide), by decide,
      leavesNoneEmpty (by decide) (by decide)⟩

/-- A STOP_DROP in RUNNING; in a stop with END waiting for room; with END of FINISH queued behind a record being written;
with that END being written; and in a stop of DROP. -/
theorem witness_StopDropThrowsTheWorkAway :
    (running.Rested ∧ running.control.survey = .running ∧ ∀ q ∈ running.sheets.queue, q.record.kind ≠ .finish) ∧
    (∀ s, s = writingHead endingControl .record (List.replicate 8 station218) true → s.Rested ∧
      s.control.survey = .stopping ∧ s.control.stopMode = .finish ∧ s.sheets.endWritten = none ∧
      ∀ q ∈ s.sheets.queue, q.record.kind ≠ .finish) ∧
    (∀ s, s = writingHead endingControl .record [station218, queuedEnd] false → s.Rested ∧
      s.control.survey = .stopping ∧ s.control.stopMode = .finish ∧ s.sheets.endWritten = none ∧
      s.sheets.queue = [station218] ++ [{ record := endRecord .finish 0 0 0, lostBefore := 0 }] ∧
      ∀ q ∈ [station218], q.record.kind ≠ .finish) ∧
    (∀ s ∈ [writingHead endingControl .record [queuedEnd] false, ending .heldEntry .drop, ending .heldEntry .finish],
      s.Rested ∧ s.control.survey = .stopping ∧ s.DrainGoesOn ∧
      (s.control.stopMode = .drop ∨ s.sheets.endWritten ≠ none ∨
        (s.sheets.drain = .writing ∧ ∃ q rest, s.sheets.queue = q :: rest ∧ q.record.kind = .finish))) := by
  refine ⟨⟨running_rested, rfl, fun _ h => (by cases h)⟩, ?_, ?_, ?_⟩
  · rintro s rfl
    exact ⟨rested rfl rfl (fun h => nomatch h) (fun h => nomatch h), rfl, rfl, rfl, by decide⟩
  · rintro s rfl
    exact ⟨rested rfl rfl (fun h => nomatch h) (fun h => nomatch h), rfl, rfl, rfl, rfl, by decide⟩
  · intro s hs
    simp only [List.mem_cons, List.not_mem_nil, or_false] at hs
    rcases hs with rfl | rfl | rfl
    · exact ⟨rested rfl rfl (fun h => nomatch h) (fun h => nomatch h), rfl, (fun _ h => nomatch h),
        .inr (.inr ⟨rfl, _, _, rfl, rfl⟩)⟩
    · exact ⟨ending_rested _ _, rfl, (fun _ h => nomatch h), .inl rfl⟩
    · exact ⟨ending_rested _ _, rfl, (fun _ h => nomatch h), .inr (.inl (by decide))⟩

theorem witness_ResetBringsEveryBlockToItsResetState :
    (∀ (g : Grant) (ws : List Word), running.port.grant = some g → g.burst.transfer ≠ .write ws) ∧
    ∀ (g : Grant) (ws : List Word),
      (granted (reading .loader .planArrays 16)).port.grant = some g → g.burst.transfer ≠ .write ws := by
  constructor
  · intro g ws h; cases h
  · intro g ws h; cases h; exact fun h => nomatch h

/-- Ranges at both bounds; and samples of the calibration, floor 8 and C = 74 of para 3.6.2: one of a corrected range at Rmin,
one 1 mm below it, one in the first masked sector, and one 1 below the floor. -/
theorem witness_CellsKeepTheTwoLeastAndTheSum : (∀ r ∈ [16383, 1, 1], 1 ≤ r ∧ r ≤ 16383) ∧
    (((300 : Nat) : Int) = max 1 (min 16383 ((306 : BitVec 14).toNat + calibration.zeroOffset)) ∧
      calibration.rmin ≤ 300 ∧ 300 ≤ calibration.rmax ∧ 8 ≤ (8 : BitVec 6).toNat ∧ (306 : BitVec 14) ≠ 0 ∧
      (((4090 : BitVec 12).toNat : Int) + (calibration.trimCode - 8) + calibration.mountRoll) % 4096 = 4073 ∧
      ((4073 : Int) + 74) % 4096 = 51 ∧ calibration.mask.getLsbD ((4073 : Int).toNat / 16) = false) ∧
    (((299 : Nat) : Int) = max 1 (min 16383 ((305 : BitVec 14).toNat + calibration.zeroOffset)) ∧
      299 < calibration.rmin) ∧
    ((((3025 : BitVec 12).toNat : Int) + (calibration.trimCode - 8) + calibration.mountRoll) % 4096 = 3008 ∧
      calibration.mask.getLsbD ((3008 : Int).toNat / 16) = true) ∧ (7 : BitVec 6).toNat < 8 := by decide

/-- The mean of -7 and -8 is a half, taken away from zero; cants of -1500 and 1500 are the bounds of the last clause. -/
theorem witness_CantInUseIsTheNearestMean :
    (2 * ((-8 : Int) * ([-7, -8] : List Int).length - ([-7, -8] : List Int).sum)).natAbs =
      ([-7, -8] : List Int).length ∧
    ([-7, -8] : List Int).sum.natAbs < ((-8 : Int) * ([-7, -8] : List Int).length).natAbs ∧
    ([-7, -8] : List Int) ≠ [] := by decide

/-- Two sectors of one worst margin. -/
theorem witness_SummaryNamesTheWorstSector :
    (ClearanceSummary.start.over 0 [{ cls := .clear, margin := some 51 }, { cls := .encroach, margin := some (-45) },
      { cls := .encroach, margin := some (-45) }]).worstSector = some 1 := by decide

/-- The margins -1, 0, 49 and 50 under a warn band of 50; the template of straight line past the widest band, and the first of
two bands that cover; an edge at the first millimetre of a zone, at its last, and past it. -/
theorem witness_MarginsBandsAndZones :
    ([2654, 2655, 2704, 2705].map (fun second => (assessSector false 2640 { count := 2, least := 1, second := second } 15
      50).margin)) = [some (-1), some 0, some 49, some 50] ∧
    (∀ b ∈ tables.bands, b.limit < ((1201 : Int)).natAbs) ∧
    (tables.bands = [{ limit := 300, left := 3, right := 4 }] ++ { limit := 600, left := 5, right := 6 } ::
        [{ limit := 1200, left := 1, right := 2 }] ∧ ((-600 : Int)).natAbs ≤ 600 ∧
      ∀ b ∈ [({ limit := 300, left := 3, right := 4 } : Band)], b.limit < ((-600 : Int)).natAbs) ∧
    (∀ p : PlanTables, p = { tables with zones := [{ first := 100, past := 200, parameters := zoneParameters }] } →
      p.zoneAt 100 = some 0 ∧ p.zoneAt 199 = some 0 ∧ p.zoneAt 200 = none ∧ p.zoneAt 99 = none) := by
  refine ⟨by decide, by decide, by decide, ?_⟩
  rintro p rfl
  decide

/-- Counts of Km - 1 and Km; a baseline radius of 16383 and of 16384; a mean at a half, taken up; and its bounds as the
statement writes them. -/
theorem witness_LevelSectorsAtTheirBounds :
    (19 < 20 ∧ judgeLevel 20 10 { count := 20, sum := 54990 } 2740 = { status := .deform, deviation := some 10 } ∧
      judgeLevel 20 11 { count := 20, sum := 54990 } 2740 = { status := .steady, deviation := some 10 }) ∧
    (2 * 2750 * 20 ≤ 2 * 54990 + 20 ∧ 2 * 54990 + 20 < 2 * (2750 + 1) * 20) ∧ (16383 ≤ 16383 ∧ 16383 < 16384) := by decide

theorem witness_EntriesAndDeformSummaryFollowTheSectors :
    (∀ l ∈ [({ status := .deform, deviation := some 19 } : LevelResult), { status := .noBase, deviation := none }],
      l.status = .deform → l.deviation ≠ none) ∧
    ([{ cls := .clear, margin := some 51 }, { cls := .near, margin := some 20 }] : List RailResult).length =
      ([{ status := .deform, deviation := some 19 }, { status := .noBase, deviation := none }] : List LevelResult).length := by
  decide

/-- SHEET_STARVED above SHEET_READY; and an alert alone, its worst margin at the least a word can carry. -/
theorem witness_NoticePresentsTheHighestPriority : (∃ (s : State) (x : Notice), s.notices.presented = some x ∧
    s.interruptLine = true) ∧
    (∃ (s : State) (a : Alert) (rest : List Alert), s.notices.fault = none ∧ s.notices.linkFault = none ∧
      s.notices.alerts = a :: rest ∧ a.worstMargin = some (-32767) ∧ a.kind = .encroach ∧ a.worstSector = some 255) :=
  ⟨⟨{ running with
    notices := { running.notices with starved := some 3, unannounced := [3] }
    control := { running.control with interruptEnable := true } }, _, rfl, rfl⟩,
    { running with notices := { running.notices with
        alerts := [{ station := 301, kind := .encroach, worstMargin := some (-32767), worstSector := some 255,
                     deformCount := 0, maxDeviation := none }] } }, _, _, rfl, rfl, rfl, rfl, rfl, rfl⟩

/-- Fifteen entries; sixteen, of which that of station 311 is the least severe; and a pair of each kind. -/
theorem witness_AlertOfferKeepsTheMostSevere : (alerts16.take 15).length < 16 ∧ alerts16.length = 16 ∧
    (∃ least, alerts16[10]? = some least ∧ ∀ (j : Nat) (b : Alert), alerts16[j]? = some b →
      least.moreSevere b = false ∧ (10 < j → b.moreSevere least = true)) ∧
    (deformAlert 317 (-14)).kind = .deform ∧ (deformAlert 317 (-14)).maxDeviation = some (-14) := by
  refine ⟨by decide, by decide, ⟨_, rfl, ?_⟩, rfl, rfl⟩
  have all : ∀ j : Fin 16, ((alerts16[10]?.getD (deformAlert 0 0)).moreSevere (alerts16[j.val]?.getD (deformAlert 0 0)) = false) ∧
      (10 < j.val → (alerts16[j.val]?.getD (deformAlert 0 0)).moreSevere (alerts16[10]?.getD (deformAlert 0 0)) = true) := by
    decide
  intro j b hb
  have hj : j < 16 := by
    have := List.getElem?_eq_some_iff.1 hb
    exact this.1
  have h := all ⟨j, hj⟩
  simp only [hb] at h
  exact h

end Sys2Proof.Tests
end

section
/-! PROOFS. The cant line (R44 to R46), what the cant history amounts to (R48, R49), and the correction and folding of
samples (R51 to R56, R64 to R66): O26, O27, O55 and O56. -/
namespace Sys2Proof.Machine

/-! ### The commands of the cant line -/

theorem exec_cantReply (v : BitVec 16) (good : Bool) (s : State) :
    exec (.cantReply v good) s = execCantReply v good s := by
  rfl

theorem exec_replyTimerExpiry (s : State) : exec .replyTimerExpiry s = execReplyTimerExpiry s := by
  rfl

/-- R44: a late reply is ignored. -/
theorem execCantReply_of_not_inFlight {s : State} (h : s.cant.readInFlight = false) (v : BitVec 16) (good : Bool) :
    execCantReply v good s = .next s := by
  simp [execCantReply, h]

theorem execCantReply_of_good {s : State} {v : BitVec 16} (h : s.cant.readInFlight = true)
    (hv : v.toInt.natAbs ≤ 4500) : execCantReply v true s = .next (s.goodReading v.toInt) := by
  simp [execCantReply, h, hv]

theorem execCantReply_of_failed {s : State} {v : BitVec 16} {good : Bool} (h : s.cant.readInFlight = true)
    (hv : good = false ∨ 4500 < v.toInt.natAbs) : execCantReply v good s = .next s.failReading := by
  have hbad : ¬ (good = true ∧ v.toInt.natAbs ≤ 4500) := by
    rintro ⟨rfl, hle⟩
    rcases hv with hgood | hgt
    · cases hgood
    · exact absurd hgt (Nat.not_lt.2 hle)
  simp [execCantReply, h, hbad]

theorem execReplyTimerExpiry_of_not_inFlight {s : State} (h : s.cant.readInFlight = false) :
    execReplyTimerExpiry s = .next s := by
  simp [execReplyTimerExpiry, h]

theorem execReplyTimerExpiry_of_inFlight {s : State} (h : s.cant.readInFlight = true) :
    execReplyTimerExpiry s = .next s.failReading := by
  simp [execReplyTimerExpiry, h]

/-! ### Readings that succeed and that fail (R45, R46) -/

/-- A history never holds more than four readings, so that R45's "the oldest of four" is one of exactly four. -/
theorem pushReading_of_length_le {history : List Int} (h : history.length ≤ 4) (x : Int) :
    pushReading history x = (if history.length = 4 then history.tail else history) ++ [x] := by
  rcases Nat.lt_or_eq_of_le h with hlt | heq
  · simp [pushReading, hlt, Nat.ne_of_lt hlt]
  · simp [pushReading, heq]

theorem State.failReading_eq (s : State) :
    s.failReading = { s with
      cant := { s.cant with failures := min 255 (s.cant.failures + 1), readInFlight := false }
      notices := { s.notices with
        cantFault := if s.cant.failures = 15 then
            some { argument := 16, particulars := BitVec.ofNat 32 s.cant.history.length,
                   more := s.notices.cantFault.isSome }
          else s.notices.cantFault } } := by
  by_cases h : s.cant.failures = 15
  · simp [State.failReading, h, State.raiseCantFault, raiseLatch, natWord, saturatingSucc]
  · simp [State.failReading, h, saturatingSucc]

/-- Settles O26. -/
theorem goodReadingJoinsTheHistory : Obligations.GoodReadingJoinsTheHistory := by
  intro v s hflight hlength hv
  rw [exec_cantReply, execCantReply_of_good hflight hv, State.goodReading, pushReading_of_length_le hlength]

/-- Settles O27: each of the two commands comes to `State.failReading` with a read in flight, and to nothing without. -/
theorem failedReadingRaisesTheFailureCount : Obligations.FailedReadingRaisesTheFailureCount := by
  intro c s hc
  constructor
  · intro hflight
    rw [← State.failReading_eq]
    rcases hc with rfl | ⟨v, good, rfl, hv⟩
    · rw [exec_replyTimerExpiry, execReplyTimerExpiry_of_inFlight hflight]
    · rw [exec_cantReply, execCantReply_of_failed hflight hv]
  · intro hflight
    have hlate (v : BitVec 16) (good : Bool) : exec (.cantReply v good) s = .next s := by
      rw [exec_cantReply, execCantReply_of_not_inFlight hflight]
    refine ⟨?_, hlate⟩
    rcases hc with rfl | ⟨v, good, rfl, -⟩
    · rw [exec_replyTimerExpiry, execReplyTimerExpiry_of_not_inFlight hflight]
    · exact hlate v good

/-! ### The mean rounded half away from zero (R48, R49) -/

theorem withSignOf_of_nonneg {x : Int} (h : 0 ≤ x) (k : Nat) : withSignOf x k = k := by
  simp [withSignOf, Int.not_lt.2 h]

theorem withSignOf_of_neg {x : Int} (h : x < 0) (k : Nat) : withSignOf x k = -(k : Int) := by
  simp [withSignOf, h]

theorem withSignOf_neg {x : Int} (h : x ≠ 0) (k : Nat) : withSignOf (-x) k = -withSignOf x k := by
  rcases Int.lt_or_gt_of_ne h with hneg | hpos
  · rw [withSignOf_of_neg hneg, withSignOf_of_nonneg (by omega), Int.neg_neg]
  · rw [withSignOf_of_nonneg (Int.le_of_lt hpos), withSignOf_of_neg (by omega)]

/-- `m` is a whole number nearest to `s / n`, the one away from zero at a half. -/
def NearestQuotient (s : Int) (n : Nat) (m : Int) : Prop :=
  (2 * (m * n - s)).natAbs ≤ n ∧ ((2 * (m * n - s)).natAbs = n → s.natAbs < (m * n).natAbs)

theorem NearestQuotient.neg {s m : Int} {n : Nat} (h : NearestQuotient s n m) : NearestQuotient (-s) n (-m) := by
  obtain ⟨hnear, htie⟩ := h
  have hmul : -m * (n : Int) = -(m * n) := Int.neg_mul m n
  unfold NearestQuotient
  rw [hmul]
  omega

/-- The nearest quotient of a sum that is not negative is not negative: -1 and less are further off than 0. -/
theorem NearestQuotient.nonneg {s m : Int} {n : Nat} (hn : 0 < n) (hs : 0 ≤ s) (h : NearestQuotient s n m) :
    0 ≤ m := by
  obtain ⟨hnear, -⟩ := h
  by_contra hm
  have hle : m * (n : Int) ≤ -1 * n := Int.mul_le_mul_of_nonneg_right (by omega) (by omega)
  omega

theorem NearestQuotient.of_nat {s n k : Nat} (h : NearestQuotient s n k) : (2 * s + n) / (2 * n) = k := by
  obtain ⟨hnear, htie⟩ := h
  have hcast : (k : Int) * n = ((k * n : Nat) : Int) := (Int.natCast_mul k n).symm
  rw [hcast] at hnear htie
  apply Nat.div_eq_of_lt_le
  · rw [Nat.mul_left_comm]
    omega
  · rw [Nat.mul_left_comm, Nat.add_one_mul k n]
    omega

theorem NearestQuotient.eq_of_nonneg {s m : Int} {n : Nat} (hn : 0 < n) (hs : 0 ≤ s) (h : NearestQuotient s n m) :
    (((2 * s.natAbs + n) / (2 * n) : Nat) : Int) = m := by
  lift m to Nat using h.nonneg hn hs
  lift s to Nat using hs
  rw [Int.natAbs_natCast, h.of_nat]

/-- The part's rounding gives the nearest quotient: that of a negative sum is the negated one of its magnitude. -/
theorem NearestQuotient.eq {s m : Int} {n : Nat} (hn : 0 < n) (h : NearestQuotient s n m) :
    withSignOf s ((2 * s.natAbs + n) / (2 * n)) = m := by
  rcases lt_or_ge s 0 with hneg | hnonneg
  · have hmagnitude := h.neg.eq_of_nonneg hn (by omega)
    rw [Int.natAbs_neg] at hmagnitude
    rw [withSignOf_of_neg hneg, hmagnitude, Int.neg_neg]
  · rw [withSignOf_of_nonneg hnonneg, h.eq_of_nonneg hn hnonneg]

theorem cantInUse_of_ne_nil {history : List Int} (h : history ≠ []) :
    cantInUse history = clampInt (-1500) 1500
      (withSignOf history.sum ((2 * history.sum.natAbs + history.length) / (2 * history.length))) := by
  cases history with
  | nil => exact absurd rfl h
  | cons x xs => simp only [cantInUse, List.sum_eq_foldl]

theorem cantAngleOffset_neg (cant : Int) : cantAngleOffset (-cant) = -cantAngleOffset cant := by
  by_cases h : cant = 0
  · subst h
    rfl
  · simp only [cantAngleOffset, Int.natAbs_neg, withSignOf_neg h]

theorem cantAngleOffset_nearest (cant : Int) : (2 * (cantAngleOffset cant * 36000 - cant * 4096)).natAbs ≤ 36000 := by
  unfold cantAngleOffset withSignOf
  split <;> omega

theorem cantAngleOffset_bounds {cant : Int} (hlo : -1500 ≤ cant) (hhi : cant ≤ 1500) :
    -171 ≤ cantAngleOffset cant ∧ cantAngleOffset cant ≤ 171 := by
  unfold cantAngleOffset withSignOf
  split <;> omega

/-- Settles O56, by the uniqueness of the nearest quotient. -/
theorem cantInUseIsTheNearestMean : Obligations.CantInUseIsTheNearestMean := by
  refine ⟨rfl, fun history hne m hnear htie => ?_, fun cant hlo hhi => ?_⟩
  · have hmean : NearestQuotient history.sum history.length m := ⟨hnear, htie⟩
    rw [cantInUse_of_ne_nil hne, hmean.eq (List.length_pos_iff.2 hne), clampInt]
  · obtain ⟨hmin, hmax⟩ := cantAngleOffset_bounds hlo hhi
    exact ⟨hmin, hmax, cantAngleOffset_nearest cant, cantAngleOffset_neg cant⟩

/-! ### The two least of a run of ranges (R65) -/

/-- Sorting a run with one more range at its end inserts that range into the run sorted. -/
theorem mergeSort_concat (rs : List Nat) (r : Nat) :
    (rs ++ [r]).mergeSort (· ≤ ·) = (rs.mergeSort (· ≤ ·)).orderedInsert (· ≤ ·) r := by
  have hsorted : (rs.mergeSort (· ≤ ·)).Pairwise (· ≤ ·) := List.pairwise_mergeSort' _ rs
  have hperm : ((rs ++ [r]).mergeSort (· ≤ ·)).Perm ((rs.mergeSort (· ≤ ·)).orderedInsert (· ≤ ·) r) :=
    calc
      List.Perm ((rs ++ [r]).mergeSort (· ≤ ·)) (rs ++ [r]) := List.mergeSort_perm _ _
      List.Perm _ (r :: rs) := List.perm_append_singleton r rs
      List.Perm _ (r :: rs.mergeSort (· ≤ ·)) := (List.mergeSort_perm rs _).symm.cons r
      List.Perm _ ((rs.mergeSort (· ≤ ·)).orderedInsert (· ≤ ·) r) := (List.perm_orderedInsert _ r _).symm
  exact hperm.eq_of_pairwise' (List.pairwise_mergeSort' _ _) (hsorted.orderedInsert r _)

/-- The least of a run with one more range, `d` being the least of none. -/
theorem getD_zero_orderedInsert {r d : Nat} (hr : r ≤ d) (l : List Nat) :
    (l.orderedInsert (· ≤ ·) r).getD 0 d = min r (l.getD 0 d) := by
  cases l with
  | nil => simp [hr]
  | cons a l =>
    by_cases hra : r ≤ a
    · simp [hra]
    · simp [hra, Nat.le_of_not_le hra]

/-- The second least of a run with one more range: the old second least, or the greater of the new range and the old
least. -/
theorem getD_one_orderedInsert {r d : Nat} (hr : r ≤ d) {l : List Nat} (hsorted : l.Pairwise (· ≤ ·))
    (hd : ∀ x ∈ l, x ≤ d) :
    (l.orderedInsert (· ≤ ·) r).getD 1 d = min (max r (l.getD 0 d)) (l.getD 1 d) := by
  match l with
  | [] => simp
  | [a] =>
    have had : a ≤ d := hd a (by simp)
    by_cases hra : r ≤ a
    · simp [hra, had]
    · simp [hra, hr, Nat.le_of_not_le hra]
  | a :: b :: l =>
    have hab : a ≤ b := List.rel_of_pairwise_cons hsorted (by simp)
    by_cases hra : r ≤ a
    · simp [hra, hab]
    · by_cases hrb : r ≤ b
      · simp [hra, hrb, Nat.le_of_not_le hra]
      · simp [hra, hrb, Nat.le_of_not_le hra, Nat.le_of_not_le hrb]

theorem getD_zero_le_getD_one {d : Nat} {l : List Nat} (hsorted : l.Pairwise (· ≤ ·)) (hd : ∀ x ∈ l, x ≤ d) :
    l.getD 0 d ≤ l.getD 1 d := by
  match l with
  | [] => simp
  | [a] => simpa using hd a (by simp)
  | a :: b :: l => simpa using List.rel_of_pairwise_cons hsorted (show b ∈ b :: l by simp)

/-! ### Folding into cells (R65, R66) -/

/-- R65 as minima: a repeated least value becomes the second least. -/
theorem RailCell.fold_eq {cell : RailCell} (hcount : cell.count ≤ 65535) (hle : cell.least ≤ cell.second) (r : Nat) :
    cell.fold r =
      { count := min 65535 (cell.count + 1), least := min r cell.least,
        second := min (max r cell.least) cell.second } := by
  have hsucc : (if cell.count < 65535 then cell.count + 1 else cell.count) = min 65535 (cell.count + 1) := by
    split <;> omega
  simp only [RailCell.fold, hsucc]
  by_cases hleast : r < cell.least
  · rw [if_pos hleast, RailCell.mk.injEq]
    omega
  · rw [if_neg hleast]
    by_cases hsecond : r < cell.second
    · rw [if_pos hsecond, RailCell.mk.injEq]
      omega
    · rw [if_neg hsecond, RailCell.mk.injEq]
      omega

theorem foldl_railCell_fold (rs : List Nat) (h : ∀ r ∈ rs, 1 ≤ r ∧ r ≤ 16383) :
    rs.foldl RailCell.fold { count := 0, least := 16383, second := 16383 } =
      { count := min 65535 rs.length, least := (rs.mergeSort (· ≤ ·)).getD 0 16383,
        second := (rs.mergeSort (· ≤ ·)).getD 1 16383 } := by
  induction rs using List.reverseRecOn with
  | nil => simp
  | append_singleton rs r ih =>
    have hrs : ∀ x ∈ rs, 1 ≤ x ∧ x ≤ 16383 := fun x hx => h x (by simp [hx])
    have hr : r ≤ 16383 := (h r (by simp)).2
    have hsorted : (rs.mergeSort (· ≤ ·)).Pairwise (· ≤ ·) := List.pairwise_mergeSort' _ rs
    have hbound : ∀ x ∈ rs.mergeSort (· ≤ ·), x ≤ 16383 := fun x hx => (hrs x (List.mem_mergeSort.1 hx)).2
    rw [List.foldl_concat, ih hrs,
      RailCell.fold_eq (Nat.min_le_left _ _) (getD_zero_le_getD_one hsorted hbound), mergeSort_concat,
      getD_zero_orderedInsert hr, getD_one_orderedInsert hr hsorted hbound, List.length_append, List.length_singleton]
    simp only [RailCell.mk.injEq, and_true]
    omega

theorem foldl_levelCell_fold (rs : List Nat) :
    rs.foldl LevelCell.fold { count := 0, sum := 0 } =
      { count := min 65535 rs.length, sum := (rs.take 65535).sum } := by
  induction rs using List.reverseRecOn with
  | nil => simp
  | append_singleton rs r ih =>
    rw [List.foldl_concat, ih, LevelCell.fold, List.take_append, List.length_append, List.length_singleton]
    by_cases hroom : rs.length < 65535
    · have htake : List.take (65535 - rs.length) [r] = [r] := List.take_of_length_le (by simp; omega)
      rw [if_pos (by simpa using hroom), htake, List.sum_append, List.sum_singleton]
      simp only [LevelCell.mk.injEq, and_true]
      omega
    · have htake : 65535 - rs.length = 0 := by omega
      rw [if_neg (by simpa using hroom), htake, List.take_zero, List.append_nil]
      simp only [LevelCell.mk.injEq, and_true]
      omega

/-! ### The correction of a sample (R51 to R55) -/

theorem railAngle_eq (c : Calibration) (angle : BitVec 12) :
    railAngle c angle = ((angle.toNat : Int) + (c.trimCode - 8) + c.mountRoll) % 4096 :=
  Int.emod_add_emod _ _ _

theorem correctedRange_eq {c : Calibration} {range : BitVec 14} {r : Nat}
    (hr : (r : Int) = max 1 (min 16383 (range.toNat + c.zeroOffset))) : correctedRange c range = r := by
  rw [correctedRange, clampInt, ← hr, Int.toNat_natCast]

theorem sectorOfAngle_val {a : Int} (hlt : a < 4096) : (sectorOfAngle a).val = a.toNat / 16 :=
  Nat.mod_eq_of_lt (by omega)

theorem eq_sectorOfAngle_iff {a : Int} (hle : 0 ≤ a) (hlt : a < 4096) (k : Sector) :
    k = sectorOfAngle a ↔ (k.val : Int) = a / 16 := by
  rw [Fin.ext_iff, sectorOfAngle_val hlt]
  omega

section
variable {c : Calibration} {floor r : Nat} {cantOffset rail : Int} {x : Sample}

theorem correctSample_eq_none
    (hrail : rail = ((x.angle.toNat : Int) + (c.trimCode - 8) + c.mountRoll) % 4096)
    (hr : (r : Int) = max 1 (min 16383 (x.range.toNat + c.zeroOffset)))
    (h : x.range = 0 ∨ x.strength.toNat < floor ∨ r < c.rmin ∨ c.rmax < r ∨ c.mask.getLsbD (rail.toNat / 16) = true) :
    correctSample c floor cantOffset x = none := by
  have hsector : (sectorOfAngle rail).val = rail.toNat / 16 := sectorOfAngle_val (by omega)
  by_cases hzero : x.range = 0
  · simp [correctSample, hzero]
  · have hinvalid : ¬ (floor ≤ x.strength.toNat ∧ c.rmin ≤ r ∧ r ≤ c.rmax ∧
        c.mask.getLsbD (sectorOfAngle rail).val = false) := by
      rintro ⟨hfloor, hmin, hmax, hmask⟩
      rw [hsector] at hmask
      rcases h with hz | hf | hlo | hhi | hm
      · exact hzero hz
      · omega
      · omega
      · omega
      · simp [hmask] at hm
    simp only [correctSample, if_neg hzero, railAngle_eq, ← hrail, correctedRange_eq hr, if_neg hinvalid]

theorem correctSample_eq_some
    (hrail : rail = ((x.angle.toNat : Int) + (c.trimCode - 8) + c.mountRoll) % 4096)
    (hr : (r : Int) = max 1 (min 16383 (x.range.toNat + c.zeroOffset)))
    (hrange : x.range ≠ 0) (hfloor : floor ≤ x.strength.toNat) (hmin : c.rmin ≤ r) (hmax : r ≤ c.rmax)
    (hmask : c.mask.getLsbD (rail.toNat / 16) = false) :
    correctSample c floor cantOffset x =
      some { railSector := sectorOfAngle rail, levelSector := sectorOfAngle ((rail + cantOffset) % 4096), range := r } := by
  have hsector : (sectorOfAngle rail).val = rail.toNat / 16 := sectorOfAngle_val (by omega)
  have hvalid : floor ≤ x.strength.toNat ∧ c.rmin ≤ r ∧ r ≤ c.rmax ∧
      c.mask.getLsbD (sectorOfAngle rail).val = false := ⟨hfloor, hmin, hmax, hsector ▸ hmask⟩
  simp only [correctSample, if_neg hrange, railAngle_eq, ← hrail, correctedRange_eq hr, if_pos hvalid]

end

/-! ### Samples folded into a bank (R56, R64) -/

theorem get_set_apply {α : Type} {n : Nat} (v : Vector α n) (f : α → α) (i k : Fin n) :
    (v.set i.val (f (v.get i))).get k = if k = i then f (v.get k) else v.get k := by
  simp only [Vector.get_eq_getElem, Vector.getElem_set]
  by_cases h : k = i
  · simp [h]
  · simp [h, Fin.val_ne_of_ne (Ne.symm h)]

theorem Bank.foldSamples_concat (c : Calibration) (floor : Nat) (cantOffset : Int) (b : Bank) (xs : List Sample)
    (x : Sample) :
    b.foldSamples c floor cantOffset (xs ++ [x]) = (b.foldSamples c floor cantOffset xs).foldSample c floor cantOffset x :=
  List.foldl_concat _ _ _ _

theorem Bank.foldSample_of_none {c : Calibration} {floor : Nat} {cantOffset : Int} {x : Sample}
    (h : correctSample c floor cantOffset x = none) (b : Bank) : b.foldSample c floor cantOffset x = b := by
  simp [Bank.foldSample, h]

theorem Bank.foldSample_of_some {c : Calibration} {floor : Nat} {cantOffset : Int} {x : Sample} {q : Corrected}
    (h : correctSample c floor cantOffset x = some q) (b : Bank) :
    b.foldSample c floor cantOffset x =
      { b with
        rail := b.rail.set q.railSector.val ((b.rail.get q.railSector).fold q.range)
        level := b.level.set q.levelSector.val ((b.level.get q.levelSector).fold q.range) } := by
  simp [Bank.foldSample, h]

/-- Settles O55: runs by induction from their newest end, a sample by whether `correctSample` finds it valid. -/
theorem cellsKeepTheTwoLeastAndTheSum : Obligations.CellsKeepTheTwoLeastAndTheSum := by
  refine ⟨fun rs h => ⟨foldl_railCell_fold rs h, foldl_levelCell_fold rs⟩, ?_⟩
  intro c floor r cantOffset rail level b before after xs x
  refine ⟨rfl, fun hbefore hafter hrail hlevel hr => ?_⟩
  have hstep : after = before.foldSample c floor cantOffset x := by
    rw [hafter, Bank.foldSamples_concat, ← hbefore]
  refine ⟨fun hinvalid => ?_, fun hrange hfloor hmin hmax hmask => ?_⟩
  · rw [hstep, Bank.foldSample_of_none (correctSample_eq_none hrail hr hinvalid)]
  · rw [Bank.foldSample_of_some (correctSample_eq_some hrail hr hrange hfloor hmin hmax hmask), ← hlevel] at hstep
    refine ⟨by rw [hstep], fun k => ?_, fun k => ?_⟩
    · have hsector := eq_sectorOfAngle_iff (a := rail) (by omega) (by omega) k
      simp only [hstep, get_set_apply before.rail (RailCell.fold · r), hsector]
    · have hsector := eq_sectorOfAngle_iff (a := level) (by omega) (by omega) k
      simp only [hstep, get_set_apply before.level (LevelCell.fold · r), hsector]

end Sys2Proof.Machine
end

section
/-! PROOFS. The plan sets through the operations that touch them (R114, R119 to R128): their marks, their statuses, and
each reference count at the number of banks bound to the set. -/
namespace Sys2Proof.Machine

/-! ### The invariant in two parts: what the sets and the banks owe one another, and what the load owes them -/

/-- The clauses of `State.PlansSound` that hold whatever the load: a load begins, in the middle of an event, in a state
that has only these. -/
structure State.SetsSound (s : State) : Prop where
  oneEach : ∀ j k, (s.planSet j).mark = (s.planSet k).mark → (s.planSet j).mark ≠ .unmarked → j = k
  markedLoaded : ∀ j, (s.planSet j).mark ≠ .unmarked → (s.planSet j).status = .loaded
  pendingFree : ∀ j, (s.planSet j).mark = .pending → (s.planSet j).references = 0
  invalidFree : ∀ j, (s.planSet j).status = .invalid → (s.planSet j).references = 0
  counted : ∀ j, (s.planSet j).references = s.bound j
  freeUnbound : ∀ i, (s.bank i).phase = .free → (s.bank i).planReference = none
  openBound : ∀ i, (s.bank i).phase = .opened → (s.bank i).planReference.map PlanReference.set = s.activeSet
  activeInSurvey : s.control.survey = .running ∨ s.control.survey = .stopping ∨ s.control.startPhase = .initialising →
    s.activeSet ≠ none

/-- The clauses of `State.PlansSound` that a load that is none meets at once. -/
structure State.LoadSound (s : State) : Prop where
  copied : ∀ j offset phase words, s.loader.load = .copying j offset phase words →
    (s.planSet j).status = .invalid ∧ (s.planSet j).mark = .unmarked
  awaited : ∀ j offset, s.loader.load = .waiting j offset →
    (s.planSet j).status = .loaded ∧ (s.planSet j).mark = .unmarked ∧ 0 < (s.planSet j).references
  loadUnmarked : s.control.survey ≠ .running → s.loader.load ≠ .idle → ∀ j, (s.planSet j).mark = .unmarked

theorem SetId.forall_iff {p : SetId → Prop} : (∀ j, p j) ↔ p .x ∧ p .y :=
  ⟨fun h => ⟨h .x, h .y⟩, fun ⟨hx, hy⟩ j => by cases j <;> assumption⟩

/-- No mark is carried twice: the two sets are unmarked where their marks agree. -/
theorem State.oneEach_iff (s : State) :
    (∀ j k, (s.planSet j).mark = (s.planSet k).mark → (s.planSet j).mark ≠ .unmarked → j = k) ↔
      ¬ (s.loader.setX.mark = .active ∧ s.loader.setY.mark = .active) ∧
      ¬ (s.loader.setX.mark = .pending ∧ s.loader.setY.mark = .pending) := by
  simp only [SetId.forall_iff, State.planSet]
  cases s.loader.setX.mark <;> cases s.loader.setY.mark <;> simp

theorem State.plansSound_iff (s : State) : s.PlansSound ↔ s.SetsSound ∧ s.LoadSound := by
  constructor
  · rintro ⟨h1, h2, h3, h4, h5, h6, h7, h8, h9, h10, h11, h12⟩
    exact ⟨⟨s.oneEach_iff.2 ⟨h1, h2⟩, h3, h4, h5, h6, h7, h8, h11⟩,
      ⟨h9, h10, fun hr hl => SetId.forall_iff.2 (h12 hr hl)⟩⟩
  · rintro ⟨⟨hone, h3, h4, h5, h6, h7, h8, h11⟩, ⟨h9, h10, h12⟩⟩
    obtain ⟨h1, h2⟩ := s.oneEach_iff.1 hone
    exact ⟨h1, h2, h3, h4, h5, h6, h7, h8, h9, h10, h11, fun hr hl => SetId.forall_iff.1 (h12 hr hl)⟩

theorem State.LoadSound.of_idle {s : State} (h : s.loader.load = .idle) : s.LoadSound :=
  ⟨by simp [h], by simp [h], fun _ hl => absurd h hl⟩

/-! ### Marks and bindings -/

theorem State.activeSet_of_active {s t : State} (h : ∀ j, (t.planSet j).mark = .active ↔ (s.planSet j).mark = .active) :
    t.activeSet = s.activeSet := by
  have hx : t.loader.setX.mark = .active ↔ s.loader.setX.mark = .active := h .x
  have hy : t.loader.setY.mark = .active ↔ s.loader.setY.mark = .active := h .y
  simp only [State.activeSet, hx, hy]

theorem State.activeSet_of_mark {s t : State} (h : ∀ j, (t.planSet j).mark = (s.planSet j).mark) :
    t.activeSet = s.activeSet :=
  State.activeSet_of_active fun j => by rw [h]

theorem State.activeSet_mark {s : State} {j : SetId} (h : s.activeSet = some j) : (s.planSet j).mark = .active := by
  unfold State.activeSet at h
  split at h
  next hx =>
    cases h
    exact hx
  next =>
    split at h
    next hy =>
      cases h
      exact hy
    next => cases h

theorem State.activeSet_ne_none {s : State} {j : SetId} (h : (s.planSet j).mark = .active) : s.activeSet ≠ none := by
  unfold State.activeSet
  cases j with
  | x => rw [if_pos (show s.loader.setX.mark = .active from h)]; simp
  | y => rw [if_pos (show s.loader.setY.mark = .active from h)]; split <;> simp

theorem State.pendingSet_mark {s : State} {j : SetId} (h : s.pendingSet = some j) : (s.planSet j).mark = .pending := by
  unfold State.pendingSet at h
  split at h
  next hx =>
    cases h
    exact hx
  next =>
    split at h
    next hy =>
      cases h
      exact hy
    next => cases h

theorem SetId.eq_of_ne_of_ne {i j k : SetId} (hi : i ≠ j) (hk : k ≠ j) : i = k := by
  cases i <;> cases j <;> cases k <;> simp_all

/-- A bank that holds a station bound to a plan set (R119). -/
def Bank.boundTo (b : Bank) (j : SetId) : Bool :=
  decide (b.phase ≠ .free ∧ b.planReference.map PlanReference.set = some j)

/-- The banks bound to a set are counted from either bank. -/
theorem State.bound_eq (s : State) (i : BankId) (j : SetId) :
    s.bound j = ((s.bank i).boundTo j).toNat + ((s.bank i.other).boundTo j).toNat := by
  have hcount (a b : Bank) : [a, b].countP (fun b => b.boundTo j) = (a.boundTo j).toNat + (b.boundTo j).toNat := by
    cases ha : a.boundTo j <;> cases hb : b.boundTo j <;> simp [ha, hb]
  cases i with
  | bank0 => exact hcount _ _
  | bank1 => exact (hcount _ _).trans (Nat.add_comm _ _)

theorem Bank.boundTo_of_free {b : Bank} (h : b.phase = .free) (j : SetId) : b.boundTo j = false := by
  simp [Bank.boundTo, h]

theorem Bank.boundTo_of_ne_free {b : Bank} (h : b.phase ≠ .free) (j : SetId) :
    b.boundTo j = decide (b.planReference.map PlanReference.set = some j) := by
  simp [Bank.boundTo, h]

/-- A state whose sets have the marks and statuses of a sound one, and whose unmarked and PENDING sets gain no reference
from none, is sound where its counts and bindings are. -/
theorem State.SetsSound.of_marks {s t : State} (h : s.SetsSound)
    (hmark : ∀ j, (t.planSet j).mark = (s.planSet j).mark) (hstatus : ∀ j, (t.planSet j).status = (s.planSet j).status)
    (hzero : ∀ j, (s.planSet j).mark ≠ .active → (s.planSet j).references = 0 → (t.planSet j).references = 0)
    (hcount : ∀ j, (t.planSet j).references = t.bound j)
    (hfree : ∀ i, (t.bank i).phase = .free → (t.bank i).planReference = none)
    (hopen : ∀ i, (t.bank i).phase = .opened → (t.bank i).planReference.map PlanReference.set = s.activeSet)
    (hsurvey : t.control.survey = .running ∨ t.control.survey = .stopping ∨ t.control.startPhase = .initialising →
      s.control.survey = .running ∨ s.control.survey = .stopping ∨ s.control.startPhase = .initialising) :
    t.SetsSound := by
  have hactive : t.activeSet = s.activeSet := State.activeSet_of_mark hmark
  constructor
  case oneEach => intro j k; rw [hmark, hmark]; exact h.oneEach j k
  case markedLoaded => intro j; rw [hmark, hstatus]; exact h.markedLoaded j
  case pendingFree =>
    intro j hj
    rw [hmark] at hj
    exact hzero j (by rw [hj]; decide) (h.pendingFree j hj)
  case invalidFree =>
    intro j hj
    rw [hstatus] at hj
    exact hzero j (fun e => by simpa [hj] using h.markedLoaded j (by rw [e]; decide)) (h.invalidFree j hj)
  case counted => exact hcount
  case freeUnbound => exact hfree
  case openBound => intro i hi; rw [hactive]; exact hopen i hi
  case activeInSurvey => intro hs; rw [hactive]; exact h.activeInSurvey (hsurvey hs)

/-! ### Operations that change nothing of what the invariant reads -/

/-- From `s` to `t` no mark, status, reference count or binding changes and no bank opens or is freed; the load stands or
is given up; and the survey does not enter a state that asks more of the sets. -/
structure State.KeepsPlans (s t : State) : Prop where
  status : ∀ j, (t.planSet j).status = (s.planSet j).status
  mark : ∀ j, (t.planSet j).mark = (s.planSet j).mark
  references : ∀ j, (t.planSet j).references = (s.planSet j).references
  planReference : ∀ i, (t.bank i).planReference = (s.bank i).planReference
  free : ∀ i, (t.bank i).phase = .free ↔ (s.bank i).phase = .free
  opened : ∀ i, (t.bank i).phase = .opened → (s.bank i).phase = .opened
  load : t.loader.load = s.loader.load ∨ t.loader.load = .idle
  survey : t.control.survey = .running ∨ t.control.survey = .stopping ∨ t.control.startPhase = .initialising →
    s.control.survey = .running ∨ s.control.survey = .stopping ∨ s.control.startPhase = .initialising
  loading : t.control.survey ≠ .running → t.loader.load ≠ .idle → s.control.survey ≠ .running

theorem State.KeepsPlans.of_eq {s t : State} (ha : t.accumulator = s.accumulator) (hl : t.loader = s.loader)
    (hc : t.control = s.control) : s.KeepsPlans t := by
  have hbank : ∀ i, t.bank i = s.bank i := State.bank_of_accumulator ha
  have hset : ∀ j, t.planSet j = s.planSet j := State.planSet_of_loader hl
  constructor <;> simp +contextual [hbank, hset, hl, hc]

theorem State.KeepsPlans.refl (s : State) : s.KeepsPlans s := .of_eq rfl rfl rfl

theorem State.KeepsPlans.trans {s t u : State} (h : s.KeepsPlans t) (k : t.KeepsPlans u) : s.KeepsPlans u where
  status j := (k.status j).trans (h.status j)
  mark j := (k.mark j).trans (h.mark j)
  references j := (k.references j).trans (h.references j)
  planReference i := (k.planReference i).trans (h.planReference i)
  free i := (k.free i).trans (h.free i)
  opened i hi := h.opened i (k.opened i hi)
  load := by
    rcases k.load with hk | hk
    · rw [hk]; exact h.load
    · exact .inr hk
  survey hu := h.survey (k.survey hu)
  loading hu hl := by
    refine h.loading (k.loading hu hl) ?_
    rcases k.load with hk | hk
    · rwa [← hk]
    · exact absurd hk hl

/-- A bank rewritten without being opened, freed or bound anew. -/
theorem State.keepsPlans_setBank (s : State) (i : BankId) {b : Bank} (hr : b.planReference = (s.bank i).planReference)
    (hf : b.phase = .free ↔ (s.bank i).phase = .free) (ho : b.phase = .opened → (s.bank i).phase = .opened) :
    s.KeepsPlans (s.setBank i b) := by
  have hset : ∀ j, (s.setBank i b).planSet j = s.planSet j := State.planSet_of_loader (by simp)
  have hbank (k : BankId) : (s.setBank i b).bank k = if k = i then b else s.bank k := State.bank_setBank_if s i k b
  constructor
  case planReference | free | opened =>
    intro k
    rw [hbank k]
    split
    next hk =>
      subst hk
      assumption
    next => simp
  all_goals simp +contextual [hset]

theorem State.KeepsPlans.bound {s t : State} (h : s.KeepsPlans t) (j : SetId) : t.bound j = s.bound j := by
  have hto (i : BankId) : (t.bank i).boundTo j = (s.bank i).boundTo j := by
    simp only [Bank.boundTo, h.planReference i, ne_eq, h.free i]
  rw [State.bound_eq t .bank0, State.bound_eq s .bank0, hto, hto]

theorem State.SetsSound.keeps {s t : State} (h : s.SetsSound) (k : s.KeepsPlans t) : t.SetsSound :=
  h.of_marks k.mark k.status (fun j _ hj => (k.references j).trans hj)
    (fun j => by rw [k.references, k.bound]; exact h.counted j)
    (fun i hi => (k.planReference i).trans (h.freeUnbound i ((k.free i).1 hi)))
    (fun i hi => by rw [k.planReference]; exact h.openBound i (k.opened i hi)) k.survey

theorem State.LoadSound.keeps {s t : State} (h : s.LoadSound) (k : s.KeepsPlans t) : t.LoadSound := by
  rcases k.load with hl | hl
  · constructor
    case copied => intro j o p ws hc; rw [k.status, k.mark]; exact h.copied j o p ws (hl ▸ hc)
    case awaited => intro j o hw; rw [k.status, k.mark, k.references]; exact h.awaited j o (hl ▸ hw)
    case loadUnmarked =>
      intro hr hn j
      rw [k.mark]
      exact h.loadUnmarked (k.loading hr hn) (hl ▸ hn) j
  · exact .of_idle hl

theorem State.PlansSound.keeps {s t : State} (h : s.PlansSound) (k : s.KeepsPlans t) : t.PlansSound := by
  obtain ⟨hsets, hload⟩ := (State.plansSound_iff s).1 h
  exact (State.plansSound_iff t).2 ⟨hsets.keeps k, hload.keeps k⟩

theorem State.PlansSound.sets {s : State} (h : s.PlansSound) : s.SetsSound := ((State.plansSound_iff s).1 h).1

theorem State.PlansSound.load {s : State} (h : s.PlansSound) : s.LoadSound := ((State.plansSound_iff s).1 h).2

theorem State.SetsSound.plans {s : State} (h : s.SetsSound) (hl : s.LoadSound) : s.PlansSound :=
  (State.plansSound_iff s).2 ⟨h, hl⟩

/-! ### A load begun (R114) -/

/-- A plan set that a load is to fill (R114). -/
def PlanSet.vacated (p : PlanSet) : PlanSet :=
  { p with status := .invalid, mark := .unmarked }

theorem State.beginLoad_planSet (s : State) (j k : SetId) (q : Nat) :
    (s.beginLoad j q).planSet k = if k = j then (s.planSet k).vacated else s.planSet k := by
  have hset : (s.beginLoad j q).planSet k = (s.setPlanSet j (s.planSet j).vacated).planSet k := by
    unfold State.beginLoad
    simp only [State.refuseLoad]
    split <;> cases k <;> simp [State.planSet, PlanSet.vacated]
  rw [hset, State.planSet_setPlanSet_if]
  by_cases h : k = j
  · simp [h]
  · simp [h]

theorem State.beginLoad_load (s : State) (j : SetId) (q : Nat) :
    (s.beginLoad j q).loader.load =
      if q % 4 ≠ 0 ∨ s.areaSize < q + planHeaderLength then .idle else .copying j q .header [] := by
  have harea (p : PlanSet) : (s.setPlanSet j p).areaSize = s.areaSize := by simp [State.areaSize]
  simp only [State.beginLoad, State.refuseLoad]
  split <;> simp

theorem State.SetsSound.beginLoad {s : State} (h : s.SetsSound) {j : SetId} (hr : (s.planSet j).references = 0)
    (hm : (s.planSet j).mark ≠ .active) (ho : s.control.survey ≠ .running → ∀ k, k ≠ j → (s.planSet k).mark = .unmarked)
    (q : Nat) : (s.beginLoad j q).PlansSound := by
  have hset := fun k => State.beginLoad_planSet s j k q
  have hrefs (k : SetId) : ((s.beginLoad j q).planSet k).references = (s.planSet k).references := by
    rw [hset]; split <;> rfl
  have hmark (k : SetId) : ((s.beginLoad j q).planSet k).mark = if k = j then .unmarked else (s.planSet k).mark := by
    rw [hset]; split <;> rfl
  have hactive : (s.beginLoad j q).activeSet = s.activeSet := State.activeSet_of_active fun k => by
    rw [hmark]
    split
    next hk => simp [hk, hm]
    next => rfl
  have hbank : ∀ i, (s.beginLoad j q).bank i = s.bank i := State.bank_of_accumulator (by simp)
  have hbound (k : SetId) : (s.beginLoad j q).bound k = s.bound k := by
    simp only [State.bound_eq _ .bank0, hbank]
  refine State.SetsSound.plans ?_ ?_
  · constructor
    case oneEach =>
      intro k l hkl hk
      have hkj : k ≠ j := fun e => hk (by rw [hmark, if_pos e])
      have hlj : l ≠ j := fun e => hk (by rw [hkl, hmark, if_pos e])
      rw [hmark, if_neg hkj] at hk hkl
      rw [hmark, if_neg hlj] at hkl
      exact h.oneEach k l hkl hk
    case markedLoaded =>
      intro k hk
      rw [hmark] at hk
      rw [hset]
      by_cases hkj : k = j
      · simp [hkj] at hk
      · rw [if_neg hkj] at hk ⊢
        exact h.markedLoaded k hk
    case pendingFree =>
      intro k hk
      rw [hmark] at hk
      rw [hrefs]
      by_cases hkj : k = j
      · simp [hkj] at hk
      · rw [if_neg hkj] at hk
        exact h.pendingFree k hk
    case invalidFree =>
      intro k hk
      rw [hrefs]
      by_cases hkj : k = j
      · exact hkj ▸ hr
      · rw [hset, if_neg hkj] at hk
        exact h.invalidFree k hk
    case counted => intro k; rw [hrefs, hbound]; exact h.counted k
    case freeUnbound => intro i; rw [hbank]; exact h.freeUnbound i
    case openBound => intro i; rw [hbank, hactive]; exact h.openBound i
    case activeInSurvey => rw [hactive]; simpa using h.activeInSurvey
  · have hload := State.beginLoad_load s j q
    by_cases hq : q % 4 ≠ 0 ∨ s.areaSize < q + planHeaderLength
    · exact .of_idle (hload.trans (if_pos hq))
    · rw [if_neg hq] at hload
      constructor
      case copied =>
        intro k o p ws hc
        rw [hload] at hc
        cases hc
        rw [hset, if_pos rfl]
        exact ⟨rfl, rfl⟩
      case awaited => intro k o hw; rw [hload] at hw; cases hw
      case loadUnmarked =>
        intro hs _ k
        rw [hmark]
        split
        next => rfl
        next hkj => exact ho (by simpa using hs) k hkj

/-! ### A bank freed and its set released (R59, R119, R121) -/

/-- A bank freed and out of the evaluation order, its set's reference not yet given up. -/
def State.bankVacated (s : State) (i : BankId) : State :=
  let u := s.setBank i (s.bank i).freed
  { u with accumulator := { u.accumulator with evaluationOrder := u.accumulator.evaluationOrder.erase i } }

/-- A set's reference count lowered by one, any load that waits for the set left waiting. -/
def State.lowerCount (s : State) (j : SetId) : State :=
  s.setPlanSet j { s.planSet j with references := (s.planSet j).references - 1 }

/-- The state after a bank is freed and its set's count lowered, before any load that waited for the set begins. -/
def State.bankReleased (s : State) (i : BankId) : State :=
  ((s.bank i).planReference.map fun r => (s.bankVacated i).lowerCount r.set).getD (s.bankVacated i)

theorem State.bankVacated_bank (s : State) (i k : BankId) :
    (s.bankVacated i).bank k = if k = i then (s.bank k).freed else s.bank k := by
  have hbank : (s.bankVacated i).bank k = (s.setBank i (s.bank i).freed).bank k := by cases k <;> rfl
  rw [hbank, State.bank_setBank_if]
  by_cases h : k = i
  · simp [h]
  · simp [h]

theorem State.bankVacated_eq (s : State) (i : BankId) :
    s.bankVacated i = { s with accumulator := (s.bankVacated i).accumulator } := by
  cases i <;> rfl

theorem State.lowerCount_planSet (s : State) (j k : SetId) :
    (s.lowerCount j).planSet k =
      if k = j then { s.planSet k with references := (s.planSet k).references - 1 } else s.planSet k := by
  rw [State.lowerCount, State.planSet_setPlanSet_if]
  by_cases h : k = j
  · simp [h]
  · simp [h]

theorem State.lowerCount_eq (s : State) (j : SetId) :
    s.lowerCount j = { s with loader := { s.loader with
      setX := (s.lowerCount j).loader.setX, setY := (s.lowerCount j).loader.setY } } := by
  cases j <;> rfl

theorem State.bankReleased_eq (s : State) (i : BankId) :
    s.bankReleased i = { s with
      accumulator := (s.bankVacated i).accumulator
      loader := { s.loader with
        setX := (s.bankReleased i).loader.setX, setY := (s.bankReleased i).loader.setY } } := by
  unfold State.bankReleased
  cases (s.bank i).planReference with
  | none => cases i <;> rfl
  | some r =>
    simp only [Option.map_some, Option.getD_some]
    rw [State.lowerCount_eq, State.bankVacated_eq]

theorem State.bankReleased_bank (s : State) (i k : BankId) :
    (s.bankReleased i).bank k = if k = i then (s.bank k).freed else s.bank k := by
  rw [← State.bankVacated_bank]
  exact State.bank_of_accumulator (by rw [State.bankReleased_eq]) k

theorem State.bankReleased_planSet (s : State) (i : BankId) : s.ReleasesOnce (s.bankReleased i) i := by
  intro j
  have hvacated : (s.bankVacated i).planSet j = s.planSet j :=
    State.planSet_of_loader (by rw [State.bankVacated_eq]) j
  unfold State.bankReleased
  cases (s.bank i).planReference with
  | none => exact hvacated
  | some r =>
    simp only [Option.map_some, Option.getD_some, State.lowerCount_planSet, hvacated, Option.some.injEq, eq_comm]

theorem State.freeBank_of_bound {s : State} {i : BankId} {r : PlanReference} (h : (s.bank i).planReference = some r) :
    s.freeBank i = (s.bankVacated i).releaseSet r.set := by
  simp only [State.freeBank, h]
  rfl

theorem State.freeBank_of_unbound {s : State} {i : BankId} (h : (s.bank i).planReference = none) :
    s.freeBank i = s.bankVacated i := by
  simp only [State.freeBank, h]
  rfl

theorem State.releaseSet_eq (s : State) (j : SetId) :
    (∀ q, s.loader.load = .waiting j q → (s.planSet j).references ≤ 1 →
      s.releaseSet j = (s.lowerCount j).beginLoad j q) ∧
    ((∀ q, s.loader.load = .waiting j q → 1 < (s.planSet j).references) → s.releaseSet j = s.lowerCount j) := by
  unfold State.releaseSet
  constructor
  · intro q hl hn
    simp [hl, Nat.sub_eq_zero_of_le hn, State.lowerCount]
  · intro hbusy
    dsimp only
    split
    next k q hl =>
      rw [State.setPlanSet_load] at hl
      by_cases hk : k = j
      · subst hk
        simp [Nat.sub_ne_zero_of_lt (hbusy q hl), State.lowerCount]
      · simp [hk, State.lowerCount]
    next => rfl
    next => rfl

/-- R121: a load that waits for the set begins where no other bank is bound to it. -/
theorem State.freeBank_of_awaited {s : State} {i : BankId} {j : SetId} {q : Nat} (hl : s.loader.load = .waiting j q)
    (hr : (s.bank i).planReference.map PlanReference.set = some j) (hn : (s.planSet j).references ≤ 1) :
    s.freeBank i = (s.bankReleased i).beginLoad j q := by
  obtain ⟨r, href, rfl⟩ : ∃ r, (s.bank i).planReference = some r ∧ r.set = j := by simpa using hr
  have hload : (s.bankVacated i).loader = s.loader := by rw [State.bankVacated_eq]
  rw [State.freeBank_of_bound href, (State.releaseSet_eq _ _).1 q (hload ▸ hl) (by rwa [State.planSet_of_loader hload])]
  simp [State.bankReleased, href]

theorem State.freeBank_of_not_awaited {s : State} {i : BankId}
    (h : ∀ j q, s.loader.load = .waiting j q → (s.bank i).planReference.map PlanReference.set = some j →
      1 < (s.planSet j).references) : s.freeBank i = s.bankReleased i := by
  have hload : (s.bankVacated i).loader = s.loader := by rw [State.bankVacated_eq]
  cases hr : (s.bank i).planReference with
  | none => simp [State.freeBank_of_unbound hr, State.bankReleased, hr]
  | some r =>
    rw [State.freeBank_of_bound hr, (State.releaseSet_eq _ _).2]
    · simp [State.bankReleased, hr]
    · intro q hl
      rw [State.planSet_of_loader hload]
      exact h r.set q (hload ▸ hl) (by simp [hr])

theorem State.bankReleased_mark (s : State) (i : BankId) (j : SetId) :
    ((s.bankReleased i).planSet j).mark = (s.planSet j).mark := by
  rw [State.bankReleased_planSet]
  split <;> rfl

theorem State.bankReleased_status (s : State) (i : BankId) (j : SetId) :
    ((s.bankReleased i).planSet j).status = (s.planSet j).status := by
  rw [State.bankReleased_planSet]
  split <;> rfl

/-- R119: the count of a released set is that of the banks still bound to it. -/
theorem State.SetsSound.bankReleased_counted {s : State} (h : s.SetsSound) (i : BankId) (j : SetId) :
    ((s.bankReleased i).planSet j).references = (s.bankReleased i).bound j := by
  have hcount := h.counted j
  have hfreed : ((s.bankReleased i).bank i).boundTo j = false := by
    rw [State.bankReleased_bank, if_pos rfl]
    exact Bank.boundTo_of_free rfl j
  have hother : (s.bankReleased i).bank i.other = s.bank i.other := by
    rw [State.bankReleased_bank, if_neg (BankId.other_ne i)]
  rw [State.bound_eq s i] at hcount
  rw [State.bound_eq _ i, hfreed, hother, State.bankReleased_planSet]
  by_cases hf : (s.bank i).phase = .free
  · simp [h.freeUnbound i hf, hcount, Bank.boundTo_of_free hf]
  · rw [Bank.boundTo_of_ne_free hf] at hcount
    by_cases hr : (s.bank i).planReference.map PlanReference.set = some j
    · simp only [hr, decide_true, Bool.toNat_true] at hcount
      simp only [hr, if_true, hcount, Bool.toNat_false]
      omega
    · simp only [hr, decide_false, Bool.toNat_false] at hcount
      simp [hr, hcount]

theorem State.SetsSound.bankReleased {s : State} (h : s.SetsSound) (i : BankId) : (s.bankReleased i).SetsSound := by
  have hbank := State.bankReleased_bank s i
  apply h.of_marks (State.bankReleased_mark s i) (State.bankReleased_status s i)
  case hzero =>
    intro j _ hj
    rw [State.bankReleased_planSet]
    split
    next => simp [hj]
    next => exact hj
  case hcount => exact h.bankReleased_counted i
  case hfree =>
    intro k
    rw [hbank]
    split
    next => exact fun _ => rfl
    next => exact h.freeUnbound k
  case hopen =>
    intro k
    rw [hbank]
    split
    next => exact fun hp => by cases hp
    next => exact h.openBound k
  case hsurvey => rw [State.bankReleased_eq]; exact id

theorem State.PlansSound.freeBank {s : State} (h : s.PlansSound) (i : BankId) : (s.freeBank i).PlansSound := by
  have hsets := h.sets.bankReleased i
  have hset := State.bankReleased_planSet s i
  have hmark := State.bankReleased_mark s i
  have hstatus := State.bankReleased_status s i
  have hload : (s.bankReleased i).loader.load = s.loader.load := by rw [State.bankReleased_eq]
  have hcontrol : (s.bankReleased i).control = s.control := by rw [State.bankReleased_eq]
  by_cases hw : ∃ j q, s.loader.load = .waiting j q ∧ (s.bank i).planReference.map PlanReference.set = some j ∧
      (s.planSet j).references ≤ 1
  · obtain ⟨j, q, hl, hr, hn⟩ := hw
    obtain ⟨-, hm, -⟩ := h.load.awaited j q hl
    rw [State.freeBank_of_awaited hl hr hn]
    refine hsets.beginLoad ?_ ?_ ?_ q
    · rw [hset, if_pos hr]
      exact Nat.sub_eq_zero_of_le hn
    · rw [hmark, hm]
      decide
    · intro hs k _
      rw [hmark]
      exact h.load.loadUnmarked (hcontrol ▸ hs) (by simp [hl]) k
  · have hbusy : ∀ j q, s.loader.load = .waiting j q → (s.bank i).planReference.map PlanReference.set = some j →
        1 < (s.planSet j).references := fun j q hl hr => by
      by_contra hn
      exact hw ⟨j, q, hl, hr, Nat.le_of_not_lt hn⟩
    rw [State.freeBank_of_not_awaited hbusy]
    refine hsets.plans ⟨?_, ?_, ?_⟩
    · intro j o p ws hc
      rw [hmark, hstatus]
      exact h.load.copied j o p ws (hload ▸ hc)
    · intro j q hl
      rw [hload] at hl
      obtain ⟨hst, hm, hn⟩ := h.load.awaited j q hl
      refine ⟨by rw [hstatus, hst], by rw [hmark, hm], ?_⟩
      rw [hset]
      split
      next hr => exact Nat.sub_pos_of_lt (hbusy j q hl hr)
      next => exact hn
    · intro hs hl j
      rw [hmark]
      exact h.load.loadUnmarked (hcontrol ▸ hs) (hload ▸ hl) j

end Sys2Proof.Machine
end

section
/-! PROOFS. The plan sets through the life of a station: a switch, an opening, a close, an evaluation, a discard, a
commit. -/
namespace Sys2Proof.Machine

/-! ### The switch at an opening (R125) -/

theorem State.switchedTo_planSet (s : State) (p j : SetId) :
    (s.switchedTo p).planSet j = { s.planSet j with
      mark := if j = p then .active else if (s.planSet j).mark = .active then .unmarked else (s.planSet j).mark } := by
  cases p <;> cases j <;> rfl

theorem State.switchPlan_of_none {s : State} (h : s.pendingSet = none) (n : Int) : s.switchPlan n = s := by
  simp [State.switchPlan, h]

theorem State.switchPlan_of_some {s : State} {p : SetId} (h : s.pendingSet = some p) (n : Int) :
    s.switchPlan n =
      ((s.switchedTo p).raisePlanTaken (BitVec.ofNat 24 (s.planSet p).generation)
        (natWord (s.planSet p).offset)).offer
          (planRecord .switch p (s.planSet p).generation (s.planSet p).offset n s.chainage.chainage) := by
  have hp := State.pendingSet_mark h
  have hswitch : (match s.activeSet with
      | some a => s.setPlanSet a { s.planSet a with mark := .unmarked }
      | none => s).setPlanSet p { (match s.activeSet with
        | some a => s.setPlanSet a { s.planSet a with mark := .unmarked }
        | none => s).planSet p with mark := .active } = s.switchedTo p := by
    cases p with
    | x =>
      have hx : s.loader.setX.mark = .pending := hp
      by_cases hy : s.loader.setY.mark = .active
      · simp [State.activeSet, hx, hy, State.switchedTo, State.setPlanSet, State.planSet]
      · simp [State.activeSet, hx, hy, State.switchedTo, State.setPlanSet, State.planSet]
    | y =>
      have hy : s.loader.setY.mark = .pending := hp
      by_cases hx : s.loader.setX.mark = .active
      · simp [State.activeSet, hx, State.switchedTo, State.setPlanSet, State.planSet]
      · simp [State.activeSet, hx, hy, State.switchedTo, State.setPlanSet, State.planSet]
  have hset : (s.switchedTo p).planSet p = { s.planSet p with mark := .active } := by
    rw [State.switchedTo_planSet, if_pos rfl]
  unfold State.switchPlan
  simp only [h]
  split at hswitch
  next a ha => simp only [ha, hswitch, hset]
  next ha => simp only [ha, hswitch, hset]

theorem State.PlansSound.switchedTo {s : State} (h : s.PlansSound) {p : SetId} (hp : (s.planSet p).mark = .pending)
    (hclosed : ∀ i, (s.bank i).phase ≠ .opened) : (s.switchedTo p).PlansSound := by
  have hset := State.switchedTo_planSet s p
  have hmark (j : SetId) : ((s.switchedTo p).planSet j).mark =
      if j = p then .active else if (s.planSet j).mark = .active then .unmarked else (s.planSet j).mark := by
    rw [hset]
  have hunmarked (j : SetId) (hj : (s.planSet j).mark = .unmarked) : ((s.switchedTo p).planSet j).mark = .unmarked := by
    have hjp : j ≠ p := fun e => by rw [e, hp] at hj; cases hj
    rw [hmark, if_neg hjp, hj]
    rfl
  have hother (j : SetId) (hj : j ≠ p) : ((s.switchedTo p).planSet j).mark ≠ .active := by
    rw [hmark, if_neg hj]
    split
    next => decide
    next hn => exact hn
  have hbank : ∀ i, (s.switchedTo p).bank i = s.bank i := State.bank_of_accumulator rfl
  refine State.SetsSound.plans ?_ ?_
  · constructor
    case oneEach =>
      intro j k hjk _
      by_cases hj : j = p
      · by_contra hne
        exact hother k (fun hk => hne (hj.trans hk.symm)) (by rw [← hjk, hmark, if_pos hj])
      · by_cases hk : k = p
        · exact absurd (by rw [hjk, hmark, if_pos hk]) (hother j hj)
        · exact SetId.eq_of_ne_of_ne hj hk
    case markedLoaded =>
      intro j hj
      have hstatus : ((s.switchedTo p).planSet j).status = (s.planSet j).status := by rw [hset]
      rw [hstatus]
      exact h.markedLoaded j (fun e => hj (hunmarked j e))
    case pendingFree =>
      intro j hj
      have hrefs : ((s.switchedTo p).planSet j).references = (s.planSet j).references := by rw [hset]
      rw [hmark] at hj
      rw [hrefs]
      split at hj
      next => cases hj
      next =>
        split at hj
        next => cases hj
        next => exact h.pendingFree j hj
    case invalidFree =>
      intro j
      rw [hset]
      exact h.invalidFree j
    case counted =>
      intro j
      have hbound : (s.switchedTo p).bound j = s.bound j := rfl
      rw [hset, hbound]
      exact h.counted j
    case freeUnbound => intro i; rw [hbank]; exact h.freeUnbound i
    case openBound => intro i hi; exact absurd (hbank i ▸ hi) (hclosed i)
    case activeInSurvey => exact fun _ => State.activeSet_ne_none (j := p) (by rw [hmark, if_pos rfl])
  · constructor
    case copied =>
      intro j o f ws hc
      obtain ⟨hst, hm⟩ := h.copied j o f ws hc
      exact ⟨by rw [hset]; exact hst, hunmarked j hm⟩
    case awaited =>
      intro j o hw
      obtain ⟨hst, hm, hn⟩ := h.awaited j o hw
      exact ⟨by rw [hset]; exact hst, hunmarked j hm, by rw [hset]; exact hn⟩
    case loadUnmarked => intro hs hl j; exact hunmarked j (h.load.loadUnmarked hs hl j)

/-! ### Operations on banks and blocks that leave the plans as they are -/

theorem State.KeepsPlans.of_phase {s t : State} (hr : ∀ i, (t.bank i).planReference = (s.bank i).planReference)
    (hp : ∀ i, (t.bank i).phase = (s.bank i).phase) (hl : t.loader = s.loader) (hc : t.control = s.control) :
    s.KeepsPlans t := by
  have hset : ∀ j, t.planSet j = s.planSet j := State.planSet_of_loader hl
  constructor <;> simp +contextual [hr, hp, hset, hl, hc]

theorem State.KeepsPlans.of_bank {s t : State} (hb : ∀ i, t.bank i = s.bank i) (hl : t.loader = s.loader)
    (hc : t.control = s.control) : s.KeepsPlans t :=
  .of_phase (fun i => by rw [hb]) (fun i => by rw [hb]) hl hc

theorem State.KeepsPlans.offer (s : State) (r : Record) : s.KeepsPlans (s.offer r) :=
  .of_eq (by simp) (by simp) (by simp)

theorem State.KeepsPlans.place (s : State) (r : Requester) (bs : List Burst) : s.KeepsPlans (s.place r bs) :=
  .of_eq (by simp) (by simp) (by simp)

theorem State.KeepsPlans.finishDraining (s : State) : s.KeepsPlans s.finishDraining := by
  have hset : ∀ j, s.finishDraining.planSet j = s.planSet j := State.planSet_of_loader (by simp)
  have hbank : ∀ i, s.finishDraining.bank i = s.bank i := State.bank_of_accumulator (by simp)
  constructor <;> simp +contextual [hset, hbank]

theorem State.KeepsPlans.settle (s : State) : s.KeepsPlans s.settle :=
  (State.KeepsPlans.finishDraining s).trans
    (.of_eq (t := s.finishDraining.flushPosition.arbitrate) (by simp) (by simp) (by simp))

theorem State.KeepsPlans.recordPost (s : State) (k : BitVec 8) (r : PostResult) : s.KeepsPlans (s.recordPost k r) := by
  have hset : ∀ j, (s.recordPost k r).planSet j = s.planSet j := State.planSet_of_loader rfl
  have hbank : ∀ i, (s.recordPost k r).bank i = s.bank i := State.bank_of_accumulator rfl
  constructor <;> simp +contextual [hset, hbank]

theorem State.KeepsPlans.closeBank {s : State} {i : BankId} (h : (s.bank i).phase = .opened) (n : Nat) (c : Bool) :
    s.KeepsPlans (s.closeBank i n c) := by
  have hclosed := s.keepsPlans_setBank i (b := { s.bank i with
    phase := .closing, endChainage := some (reportedChainage s.chainage.chainage), span := n, boundaryHeld := false
    flags := { (s.bank i).flags with cutShort := (s.bank i).flags.cutShort || c } }) rfl (by simp [h]) (fun hp => by cases hp)
  exact hclosed.trans (.of_bank (fun k => by cases k <;> rfl) rfl rfl)

theorem State.KeepsPlans.dropInHand (s : State) (g : Tag) : s.KeepsPlans (s.dropInHand g) := by
  refine .of_phase (fun i => ?_) (fun i => ?_) (by simp) (by simp)
  · rw [State.dropInHand_bank]; split <;> rfl
  · rw [State.dropInHand_bank]; split <;> rfl

theorem State.KeepsPlans.countDiscard (s : State) (g : Tag) : s.KeepsPlans (s.countDiscard g) := by
  refine .of_phase (fun i => ?_) (fun i => ?_) (by simp) (by simp)
  · rw [State.countDiscard_bank]; split <;> rfl
  · rw [State.countDiscard_bank]; split <;> rfl

theorem State.KeepsPlans.discardCurrent (s : State) (n : Receiver) : s.KeepsPlans (s.discardCurrent n) := by
  refine .of_phase (fun i => ?_) (fun i => ?_) (by simp) (by simp)
  · rw [State.discardCurrent_bank]
    unfold State.bankAfterDiscard
    split
    next => rfl
    next => split <;> rfl
  · rw [State.discardCurrent_bank, State.bankAfterDiscard_phase]

theorem State.KeepsPlans.raiseInHand (s : State) (tag : Option Tag) : s.KeepsPlans (s.raiseInHand tag) := by
  refine .of_phase (fun i => ?_) (fun i => ?_) (by simp) (by simp)
  · rw [State.raiseInHand_bank]; split <;> rfl
  · rw [State.raiseInHand_bank]; split <;> rfl

theorem State.KeepsPlans.flagOpenBank (s : State) (f : StationFlags → StationFlags) :
    s.KeepsPlans (s.flagOpenBank f) := by
  unfold State.flagOpenBank
  split
  next => exact .refl s
  next i _ => exact s.keepsPlans_setBank i rfl Iff.rfl id

theorem State.KeepsPlans.dropHanded (s : State) (h : Handed) : s.KeepsPlans (s.dropHanded h) := by
  have hfreed : s.KeepsPlans { s.freeBuffer h.buffer with
      sweep := { (s.freeBuffer h.buffer).sweep with handover := (s.freeBuffer h.buffer).sweep.handover.drop 1 } } :=
    .of_eq (by simp) (by simp) (by simp)
  unfold State.dropHanded
  dsimp only
  split
  next => exact (hfreed.trans (.countDiscard _ _)).trans (.dropInHand _ _)
  next => exact hfreed.trans (.dropInHand _ _)

theorem State.KeepsPlans.judgeHandedOnce (s : State) : s.KeepsPlans s.judgeHandedOnce := by
  unfold State.judgeHandedOnce
  split
  next h _ _ _ =>
    split
    next => exact .of_bank (fun i => by cases i <;> rfl) rfl rfl
    next => exact .dropHanded s h
  next => exact .refl s

theorem State.KeepsPlans.judgeHanded (s : State) : s.KeepsPlans s.judgeHanded :=
  (State.KeepsPlans.judgeHandedOnce s).trans (.judgeHandedOnce _)

/-- R64: folding samples changes the cells alone. -/
theorem Bank.foldSamples_eq (c : Calibration) (floor : Nat) (cantOffset : Int) (b : Bank) (xs : List Sample) :
    b.foldSamples c floor cantOffset xs = { b with
      rail := (b.foldSamples c floor cantOffset xs).rail, level := (b.foldSamples c floor cantOffset xs).level } := by
  induction xs using List.reverseRecOn with
  | nil => rfl
  | append_singleton xs x ih =>
    rw [Bank.foldSamples_concat]
    cases hx : correctSample c floor cantOffset x with
    | none => rw [Bank.foldSample_of_none hx]; exact ih
    | some q =>
      rw [Bank.foldSample_of_some hx]
      conv_lhs => rw [ih]

theorem State.KeepsPlans.cutCommit (s : State) : s.KeepsPlans s.cutCommit := by
  unfold State.cutCommit
  split
  next => exact .refl s
  next k _ =>
    have hfolded (xs : List Sample) : s.KeepsPlans (s.setBank k.tag.bank
        ((s.bank k.tag.bank).foldSamples s.calibration k.floor k.cantOffset xs)) := by
      apply s.keepsPlans_setBank <;> rw [Bank.foldSamples_eq]
      exact id
    exact (hfolded _).trans (.of_bank (fun i => by cases i <;> rfl) rfl rfl)

/-! ### An opening (R57 to R59, R119) -/

theorem State.referActive_planSet (s : State) : s.RefersOnce s.referActive := by
  intro j
  unfold State.referActive
  split
  next i hi =>
    rw [State.planSet_setPlanSet_if]
    by_cases h : j = i
    · simp [h, hi]
    · simp [h, hi, Ne.symm h]
  next hn => simp [hn]

theorem State.openStationIn_planSet (s : State) (i : BankId) (n : Int) : s.RefersOnce (s.openStationIn i n) := by
  intro j
  let u : State := { s with accumulator := { s.accumulator with openingCounter := s.accumulator.openingCounter + 1 } }
  let v := u.setBank i (u.openedBank (u.bank i) (s.accumulator.openingCounter + 1) n)
  have hv : v.loader = s.loader := by simp [v, u]
  have href := State.referActive_planSet v j
  rw [State.activeSet_of_loader hv, State.planSet_of_loader hv] at href
  exact href

theorem State.openStationIn_bank (s : State) (i k : BankId) (n : Int) :
    (s.openStationIn i n).bank k =
      if k = i then s.openedBank (s.bank i) (s.accumulator.openingCounter + 1) n else s.bank k := by
  let u : State := { s with accumulator := { s.accumulator with openingCounter := s.accumulator.openingCounter + 1 } }
  have hopened : u.openedBank (u.bank i) (s.accumulator.openingCounter + 1) n =
      s.openedBank (s.bank i) (s.accumulator.openingCounter + 1) n := by cases i <;> rfl
  have hbank : (s.openStationIn i n).bank k =
      (u.setBank i (u.openedBank (u.bank i) (s.accumulator.openingCounter + 1) n)).bank k :=
    State.bank_of_accumulator (by simp [State.openStationIn, u]) k
  rw [hbank, State.bank_setBank_if, hopened]
  split
  next => rfl
  next => cases k <;> rfl

theorem State.PlansSound.openStationIn {s : State} (h : s.PlansSound) {i : BankId} (hi : (s.bank i).phase = .free)
    (n : Int) : (s.openStationIn i n).PlansSound := by
  have hset := State.openStationIn_planSet s i n
  have hbank := fun k => State.openStationIn_bank s i k n
  have hmark (j : SetId) : ((s.openStationIn i n).planSet j).mark = (s.planSet j).mark := by rw [hset]; split <;> rfl
  have hstatus (j : SetId) : ((s.openStationIn i n).planSet j).status = (s.planSet j).status := by
    rw [hset]; split <;> rfl
  have hrefs (j : SetId) (hj : (s.planSet j).mark ≠ .active) :
      ((s.openStationIn i n).planSet j).references = (s.planSet j).references := by
    rw [hset, if_neg (fun e => hj (State.activeSet_mark e))]
  have hself : ((s.openStationIn i n).bank i) = s.openedBank (s.bank i) (s.accumulator.openingCounter + 1) n := by
    rw [hbank, if_pos rfl]
  have hother : (s.openStationIn i n).bank i.other = s.bank i.other := by rw [hbank, if_neg (BankId.other_ne i)]
  have hbinds : (s.openedBank (s.bank i) (s.accumulator.openingCounter + 1) n).planReference.map PlanReference.set =
      s.activeSet := by
    simp only [State.openedBank, Option.map_map]
    exact congrFun Option.map_id _
  refine State.SetsSound.plans ?_ ?_
  · apply h.sets.of_marks hmark hstatus
    case hzero => exact fun j hj h0 => (hrefs j hj).trans h0
    case hcount =>
      intro j
      have hcount := h.counted j
      rw [State.bound_eq s i, Bank.boundTo_of_free hi] at hcount
      rw [State.bound_eq _ i, hother, hself, Bank.boundTo_of_ne_free (by simp [State.openedBank]), hbinds, hset]
      by_cases hj : s.activeSet = some j
      · simp only [hj, if_true, decide_true, hcount, Bool.toNat_true, Bool.toNat_false]
        omega
      · simp only [hj, if_false, decide_false, hcount, Bool.toNat_false]
    case hfree =>
      intro k
      rw [hbank]
      split
      next => exact fun hp => by cases hp
      next => exact h.freeUnbound k
    case hopen =>
      intro k
      rw [hbank]
      split
      next => exact fun _ => hbinds
      next => exact h.openBound k
    case hsurvey => simp
  · have hload : (s.openStationIn i n).loader.load = s.loader.load := by simp
    constructor
    case copied =>
      intro j o p ws hc
      rw [hmark, hstatus]
      exact h.copied j o p ws (hload ▸ hc)
    case awaited =>
      intro j o hw
      obtain ⟨hst, hm, hn⟩ := h.awaited j o (hload ▸ hw)
      rw [hmark, hstatus, hrefs j (by rw [hm]; decide)]
      exact ⟨hst, hm, hn⟩
    case loadUnmarked =>
      intro hs hl j
      rw [hmark]
      exact h.load.loadUnmarked (by simpa using hs) (hload ▸ hl) j

theorem State.switchPlan_bank (s : State) (n : Int) (i : BankId) : (s.switchPlan n).bank i = s.bank i :=
  State.bank_of_accumulator (by simp) i

theorem State.PlansSound.openStation {s : State} (h : s.PlansSound) {i : BankId} (hi : (s.bank i).phase = .free)
    (ho : (s.bank i.other).phase ≠ .opened) (n : Int) : (s.openStation i n).PlansSound := by
  have hclosed : ∀ k, (s.bank k).phase ≠ .opened := fun k => by
    rcases BankId.eq_or_other i k with rfl | rfl
    · rw [hi]; decide
    · exact ho
  have hswitch : (s.switchPlan n).PlansSound := by
    cases hp : s.pendingSet with
    | none => rw [State.switchPlan_of_none hp]; exact h
    | some p =>
      rw [State.switchPlan_of_some hp]
      exact (h.switchedTo (State.pendingSet_mark hp) hclosed).keeps (.of_eq (by simp) (by simp) (by simp))
  exact hswitch.openStationIn (by rw [State.switchPlan_bank, hi]) n

/-! ### Boundaries and evaluations (R69 to R73) -/

theorem State.closeBank_bank (s : State) (i k : BankId) (n : Nat) (c : Bool) :
    (s.closeBank i n c).bank k =
      if k = i then { s.bank i with
        phase := .closing, endChainage := some (reportedChainage s.chainage.chainage), span := n, boundaryHeld := false
        flags := { (s.bank i).flags with cutShort := (s.bank i).flags.cutShort || c } }
      else s.bank k := by
  rw [← State.bank_setBank_if]
  cases k <;> rfl

theorem State.PlansSound.takeBoundary {s : State} (h : s.PlansSound) {i : BankId} (hi : (s.bank i).phase = .opened)
    (ho : (s.bank i.other).phase = .free) (n : Int) : (s.takeBoundary i n).PlansSound := by
  refine (h.keeps (.closeBank hi _ false)).openStation ?_ ?_ n
  · rw [State.closeBank_bank, if_neg (BankId.other_ne i), ho]
  · rw [BankId.other_other, State.closeBank_bank, if_pos rfl]
    simp

theorem State.PlansSound.takeHeldBoundary {s : State} (h : s.PlansSound) : s.takeHeldBoundary.PlansSound := by
  unfold State.takeHeldBoundary
  split
  next => exact h
  next i hi =>
    split
    next hheld =>
      obtain ⟨-, ho⟩ := hheld
      split
      next => exact h.takeBoundary (State.openBank_phase hi) ho _
      next => exact h.keeps (s.keepsPlans_setBank i rfl Iff.rfl id)
    next => exact h

theorem State.PlansSound.evaluationRound {s : State} (h : s.PlansSound) : s.evaluationRound.PlansSound := by
  unfold State.evaluationRound
  split
  next => exact h
  next i _ _ =>
    split
    next hi =>
      obtain ⟨hi, -⟩ := hi
      have hb := h.keeps (s.keepsPlans_setBank i (b := { s.bank i with
        phase := .evaluating
        flags := { (s.bank i).flags with
          thin := (s.bank i).flags.thin || decide ((s.bank i).committed < (s.boundTables i).kr) } })
        rfl (by simp [hi]) (by simp))
      unfold State.becomeEvaluating
      dsimp only
      split
      next => exact ((hb.keeps (.offer _ _)).freeBank i).takeHeldBoundary
      next => exact hb.keeps (.of_eq rfl rfl rfl)
    next => exact h

theorem State.PlansSound.advanceEvaluation {s : State} (h : s.PlansSound) : s.advanceEvaluation.PlansSound :=
  h.evaluationRound.evaluationRound.evaluationRound

theorem State.PlansSound.dropBanks {s : State} (h : s.PlansSound) : s.dropBanks.PlansSound := by
  have hfree {u : State} (hu : u.PlansSound) (i : BankId) (p : Prop) [Decidable p] :
      (if p then u else u.freeBank i).PlansSound := by
    split
    next => exact hu
    next => exact hu.freeBank i
  unfold State.dropBanks
  dsimp only
  refine (hfree (hfree (h.keeps (.cutCommit s)) .bank0 _) .bank1 _).keeps (.of_bank (fun i => ?_) rfl rfl)
  cases i <;> rfl

end Sys2Proof.Machine
end

section
/-! PROOFS. The plan sets through the events of the odometer, the markers, the revolutions and the loads. -/
namespace Sys2Proof.Machine

/-! ### Odometer and markers (chapter 2) -/

theorem State.PlansSound.settle {s : State} (h : s.PlansSound) : s.settle.PlansSound := h.keeps (.settle s)

theorem State.PlansSound.signalBoundary {s : State} (h : s.PlansSound) (n : Int) : (s.signalBoundary n).PlansSound := by
  unfold State.signalBoundary
  split
  next => exact h
  next i hi =>
    split
    next ho =>
      split
      next => exact h
      next => exact (h.takeBoundary (State.openBank_phase hi) ho n).advanceEvaluation
    next => exact h.keeps (s.keepsPlans_setBank i rfl Iff.rfl id)

theorem State.PlansSound.testBoundary {s : State} (h : s.PlansSound) : s.testBoundary.PlansSound := by
  unfold State.testBoundary
  split
  next =>
    split
    next => exact h.signalBoundary _
    next => exact h
  next => exact h

theorem State.PlansSound.abandonStation {s : State} (h : s.PlansSound) : s.abandonStation.PlansSound := by
  unfold State.abandonStation
  split
  next => exact h
  next i _ =>
    refine State.PlansSound.freeBank (State.PlansSound.keeps ?_ (.offer _ _)) i
    exact h.keeps (s.keepsPlans_setBank i rfl Iff.rfl id)

theorem State.PlansSound.reverse {s : State} (h : s.PlansSound) : s.reverse.PlansSound := by
  have hbacked : State.PlansSound { s with chainage := { s.chainage with tracker := .backed } } :=
    h.keeps (.of_eq rfl rfl rfl)
  have hdropped := ((hbacked.abandonStation.keeps (.cutCommit _)).keeps (.judgeHanded _)).advanceEvaluation
  unfold State.reverse
  exact (hdropped.keeps (.offer _ _)).keeps (.of_eq rfl rfl rfl)

/-- The bank a resume opens its station in is FREE, no bank being OPEN (R57). -/
def State.ResumesFresh (s : State) : Prop :=
  (s.bank s.freshBank).phase = .free ∧ ∀ i, (s.bank i).phase ≠ .opened

theorem State.PlansSound.resume {s : State} (h : s.PlansSound) (hf : s.ResumesFresh) : s.resume.PlansSound := by
  obtain ⟨hfree, hclosed⟩ := hf
  have htracking : State.PlansSound { s with chainage := { s.chainage with
      tracker := .tracking, peak := s.chainage.chainage } } := h.keeps (.of_eq rfl rfl rfl)
  have hbank : ∀ i, State.bank { s with chainage := { s.chainage with
      tracker := .tracking, peak := s.chainage.chainage } } i = s.bank i := State.bank_of_accumulator rfl
  have hopened := htracking.openStation (i := s.freshBank) (by rw [hbank, hfree]) (by rw [hbank]; exact hclosed _)
    (stationNumber s.calibration.stationPitch s.chainage.chainage)
  exact ((hopened.keeps (.offer _ _)).keeps (.judgeHanded _)).advanceEvaluation

/-- R32, R35: the reversal leaves the chainage behind the peak, so that no resumption follows in the same event. -/
theorem State.testResume_of_fallBack {s : State} (h : 0 < s.fallBack) : s.testResume = s := by
  simp [State.testResume, Int.not_le.2 h]

theorem State.reverse_fallBack (s : State) : s.reverse.fallBack = s.fallBack := by
  simp [State.fallBack, State.calibration]

theorem State.PlansSound.surveyTests {s : State} (h : s.PlansSound)
    (hf : s.chainage.tracker = .backed → s.ResumesFresh) : s.surveyTests.PlansSound := by
  have hpeak : s.movePeak.PlansSound := h.keeps (.of_eq (by simp) (by simp) (by simp))
  have hbank : ∀ i, s.movePeak.bank i = s.bank i := State.bank_of_accumulator (by simp)
  have hfresh : s.movePeak.freshBank = s.freshBank := by simp [State.freshBank]
  have htracker : s.movePeak.chainage.tracker = s.chainage.tracker := by
    unfold State.movePeak
    split <;> rfl
  refine State.PlansSound.testBoundary ?_
  unfold State.testReversal
  split
  next hrev =>
    obtain ⟨-, hbehind⟩ := hrev
    rw [State.testResume_of_fallBack (by rw [State.reverse_fallBack]; omega)]
    exact hpeak.reverse
  next =>
    unfold State.testResume
    split
    next hres =>
      obtain ⟨hfree, hclosed⟩ := hf (htracker ▸ hres.1)
      exact hpeak.resume ⟨by rw [hfresh, hbank]; exact hfree, fun i => by rw [hbank]; exact hclosed i⟩
    next => exact hpeak

/-- In RUNNING a bank is FREE while no station is open: at most one bank waits for evaluation (para 4.1, R72). -/
theorem State.StationsSound.resumesFresh {s : State} (h : s.StationsSound) (hs : s.control.survey = .running)
    (hb : s.chainage.tracker = .backed) : s.ResumesFresh := by
  have hclosed : ∀ i, (s.bank i).phase ≠ .opened := fun i hi => by simpa [hb] using (h.openTracks i hi).2
  have hordered : ∀ i, (s.bank i).phase ≠ .free → i ∈ s.accumulator.evaluationOrder := fun i hi => by
    refine (h.ordered i).2 ?_
    cases hp : (s.bank i).phase with
    | free => exact absurd hp hi
    | opened => exact absurd hp (hclosed i)
    | closing => exact .inl rfl
    | evaluating => exact .inr rfl
  refine ⟨?_, hclosed⟩
  unfold State.freshBank
  split
  next h0 => exact h0
  next h0 =>
    by_contra h1
    have hone : s.accumulator.evaluationOrder.length ≤ 1 := h.oneWaits (by rw [hs]; decide)
    have htwo : [BankId.bank0, BankId.bank1].length ≤ s.accumulator.evaluationOrder.length :=
      (List.subperm_of_subset (by decide) (by simp [hordered .bank0 h0, hordered .bank1 h1])).length_le
    exact absurd (Nat.le_trans htwo hone) (by decide)

theorem State.PlansSound.execOdometerStep {s t : State} (h : s.PlansSound) (hm : s.ModesSound) (hst : s.StationsSound)
    {a b : Bool} (he : execOdometerStep a b s = .next t) : t.PlansSound := by
  have hobserved (l : Levels) : (s.observeLines l).PlansSound := h.keeps (.of_eq (by simp) (by simp) (by simp))
  have hstep (l : Levels) (k : StepKind) : ((s.observeLines l).validStep k).PlansSound := by
    have hcounted : ((s.observeLines l).countStep k).PlansSound :=
      (hobserved l).keeps (.of_eq (by simp) (by simp) (by simp))
    unfold State.validStep
    dsimp only
    split
    next hmode =>
      refine (hcounted.surveyTests fun hb => ?_).settle
      have hrun : s.control.survey = .running := hm.surveyingIffRunning.1 (by simpa using hmode)
      exact hst.resumesFresh hrun (by simpa using hb)
    next => exact hcounted
    next => exact hcounted
  unfold Machine.execOdometerStep at he
  dsimp only at he
  split at he
  next => cases he; exact h.keeps (.of_eq rfl rfl rfl)
  next => cases he; exact hobserved _
  next =>
    split at he
    next => cases he; exact hobserved _
    next =>
      cases he
      unfold State.illegalStep
      split
      next => exact (hobserved _).keeps (.flagOpenBank _ _)
      next => exact hobserved _
    next => cases he; exact hstep _ _
    next => cases he; exact hstep _ _

theorem State.PlansSound.takeMarker {s : State} (h : s.PlansSound) (m : MarkerLatch) : (s.takeMarker m).PlansSound := by
  unfold State.takeMarker
  split
  next x _ =>
    split
    next =>
      have hshifted : State.PlansSound { s with chainage := { s.chainage with
          chainage := holdChainage (s.chainage.chainage + (x.chainage * 1024 - m.chainage))
          peak := holdChainage (s.chainage.peak + (x.chainage * 1024 - m.chainage)) } } :=
        h.keeps (.of_eq rfl rfl rfl)
      exact (hshifted.keeps (.flagOpenBank _ _)).testBoundary.keeps (.offer _ _)
    next => exact h.keeps (.of_eq (by simp) (by simp) (by simp))
  next => exact h.keeps (.offer _ _)

theorem State.PlansSound.execMarkerTaking {s t : State} (h : s.PlansSound) (he : execMarkerTaking s = .next t) :
    t.PlansSound := by
  unfold Machine.execMarkerTaking at he
  split at he
  next m _ _ _ =>
    cases he
    have hempty : State.PlansSound { s with chainage := { s.chainage with marker := none } } :=
      h.keeps (.of_eq rfl rfl rfl)
    exact (hempty.takeMarker m).settle
  next => cases he; exact h

/-! ### Revolutions and link faults (chapter 1) -/

theorem State.PlansSound.discard {s : State} (h : s.PlansSound) (n : Receiver) :
    (s.discardCurrent n).advanceEvaluation.PlansSound :=
  (h.keeps (.discardCurrent s n)).advanceEvaluation

theorem State.PlansSound.judgeRevolution {s : State} (h : s.PlansSound) (n : BitVec 16) (f : BitVec 8) :
    (s.judgeRevolution n f).PlansSound := by
  unfold State.judgeRevolution
  split
  next =>
    split
    next =>
      split
      next => exact h.keeps (.of_eq (by simp) (by simp) (by simp))
      next => exact h.discard _
    next => exact h.keeps (.discardCurrent _ _)
  next => exact h

theorem State.KeepsPlans.openRevolution (s : State) (n : BitVec 16) (f : BitVec 8) :
    s.KeepsPlans (s.openRevolution n f) := by
  unfold State.openRevolution
  dsimp only
  split
  next => exact .trans (.of_eq (by simp) (by simp) (by simp)) (.raiseInHand _ _)
  next =>
    split
    next =>
      refine .trans ?_ (.countDiscard _ _)
      exact .of_eq rfl rfl rfl
    next => exact .of_eq rfl rfl rfl

theorem State.PlansSound.execGoodMark {s t : State} (h : s.PlansSound) {n : BitVec 16} {f : BitVec 8}
    (he : execGoodMark n f s = .next t) : t.PlansSound := by
  unfold Machine.execGoodMark at he
  split at he
  next => cases he; exact h
  next =>
    cases he
    have hnoted : (s.noteMark n).PlansSound := h.keeps (.of_eq (by simp) (by simp) (by simp))
    exact (((hnoted.judgeRevolution n f).keeps (.openRevolution _ n f)).keeps (.judgeHanded _)).advanceEvaluation.settle

end Sys2Proof.Machine
end

section
/-! PROOFS. The plan sets through faults, stops, resets and the loads of plans; and O10. -/
namespace Sys2Proof.Machine

theorem State.KeepsPlans.of_sets {s t : State} (ha : t.accumulator = s.accumulator)
    (hx : t.loader.setX = s.loader.setX) (hy : t.loader.setY = s.loader.setY)
    (hl : t.loader.load = s.loader.load ∨ t.loader.load = .idle)
    (hs : t.control.survey = .running ∨ t.control.survey = .stopping ∨ t.control.startPhase = .initialising →
      s.control.survey = .running ∨ s.control.survey = .stopping ∨ s.control.startPhase = .initialising)
    (hr : t.control.survey ≠ .running → t.loader.load ≠ .idle → s.control.survey ≠ .running) : s.KeepsPlans t := by
  have hbank : ∀ i, t.bank i = s.bank i := State.bank_of_accumulator ha
  have hset : ∀ j, t.planSet j = s.planSet j := SetId.forall_iff.2 ⟨hx, hy⟩
  exact ⟨by simp [hset], by simp [hset], by simp [hset], by simp [hbank], by simp [hbank], by simp [hbank], hl, hs, hr⟩

theorem State.KeepsPlans.sendStop (s : State) : s.KeepsPlans s.sendStop :=
  .of_eq (by simp) (by simp) (by simp)

/-! ### No load (R128) -/

theorem State.cancelLoad_load (s : State) : s.cancelLoad.loader.load = .idle := by
  simp [State.cancelLoad]

theorem State.cancelLoad_planSet (s : State) (j : SetId) : s.cancelLoad.planSet j = s.planSet j := by
  cases j <;> simp [State.planSet]

/-- A load given up leaves nothing for the survey's state to ask of it. -/
theorem State.KeepsPlans.cancelLoad {s t : State} (ha : t.accumulator = s.accumulator) (hl : t.loader = s.loader)
    (hs : t.control.survey = .running ∨ t.control.survey = .stopping ∨ t.control.startPhase = .initialising →
      s.control.survey = .running ∨ s.control.survey = .stopping ∨ s.control.startPhase = .initialising) :
    s.KeepsPlans t.cancelLoad :=
  .of_sets (by simp [ha]) (by simp [hl]) (by simp [hl]) (.inr t.cancelLoad_load) (by simpa using hs)
    (fun _ hn => absurd t.cancelLoad_load hn)

theorem State.KeepsPlans.cancelled {s t : State} (k : s.KeepsPlans t) : s.cancelLoad.KeepsPlans t.cancelLoad := by
  have hbank (u : State) : ∀ i, u.cancelLoad.bank i = u.bank i := State.bank_of_accumulator (by simp)
  have hcontrol (u : State) : u.cancelLoad.control = u.control := by simp
  constructor
  case status => intro j; rw [State.cancelLoad_planSet, State.cancelLoad_planSet, k.status]
  case mark => intro j; rw [State.cancelLoad_planSet, State.cancelLoad_planSet, k.mark]
  case references => intro j; rw [State.cancelLoad_planSet, State.cancelLoad_planSet, k.references]
  case planReference => intro i; rw [hbank, hbank, k.planReference]
  case free => intro i; rw [hbank, hbank]; exact k.free i
  case opened => intro i; rw [hbank, hbank]; exact k.opened i
  case load => exact .inr t.cancelLoad_load
  case survey => rw [hcontrol, hcontrol]; exact k.survey
  case loading => exact fun _ hn => absurd t.cancelLoad_load hn


theorem State.freeBank_idle {s : State} (h : s.loader.load = .idle) (i : BankId) :
    (s.freeBank i).loader.load = .idle := by
  rw [State.freeBank_of_not_awaited (by simp [h]), State.bankReleased_eq]
  exact h

theorem State.dropBanks_idle {s : State} (h : s.loader.load = .idle) : s.dropBanks.loader.load = .idle := by
  have hfree {u : State} (hu : u.loader.load = .idle) (i : BankId) (p : Prop) [Decidable p] :
      (if p then u else u.freeBank i).loader.load = .idle := by
    split
    next => exact hu
    next => exact State.freeBank_idle hu i
  exact hfree (hfree (by simpa using h) .bank0 _) .bank1 _

/-! ### Faults, stops and link faults (R16, R169 to R173) -/

theorem State.PlansSound.enterFaulted {s : State} (h : s.PlansSound) (c : FaultCause) (p : Word) :
    (s.enterFaulted c p).PlansSound := by
  unfold State.enterFaulted
  split
  next => exact h
  next =>
    have hunloaded : State.PlansSound { (s.raiseFault c p).cutGrant with
        port := { (s.raiseFault c p).cutGrant.port with
          comparatorQueue := [], writerQueue := [], controlQueue := [], loaderQueue := [], grant := none
          access := .shut }
        loader := { (s.raiseFault c p).cutGrant.loader with load := .idle, calibrationWords := [] } } :=
      h.keeps (.of_sets (by simp) (by simp) (by simp) (.inr rfl) (by simp) (fun _ hl => absurd rfl hl))
    have hquiet := hunloaded.keeps (.sendStop _)
    refine hquiet.dropBanks.keeps (.of_sets (by simp) (by simp) (by simp) (.inr ?_) (by simp) (fun _ hl => absurd ?_ hl))
    · simpa using State.dropBanks_idle (by simp)
    · simpa using State.dropBanks_idle (by simp)

theorem State.PlansSound.linkFault {s : State} (h : s.PlansSound) (c : LinkCause) : (s.linkFault c).PlansSound := by
  unfold State.linkFault
  split
  next =>
    refine State.PlansSound.settle ?_
    unfold State.firstLinkFault
    exact (h.discard .waiting).keeps (.of_eq (by simp) (by simp) (by simp))
  next => exact h.enterFaulted _ _

theorem State.PlansSound.dropWork {s t : State} (h : s.PlansSound) (k : s.KeepsPlans t.cancelLoad) :
    t.dropWork.PlansSound := by
  refine (h.keeps k).dropBanks.keeps ?_
  unfold State.dropWork
  exact .of_sets (by simp) (by simp) (by simp) (.inl (by simp)) (by simp) (by simp +contextual)

theorem State.PlansSound.execStopDrop {s t : State} (h : s.PlansSound) {a : BitVec 24}
    (he : execStopDrop a s = .next t) : t.PlansSound := by
  unfold Machine.execStopDrop at he
  split at he
  next hs =>
    cases he
    refine State.PlansSound.settle (State.PlansSound.keeps ?_ (.recordPost _ _ _))
    exact h.dropWork (.cancelLoad rfl rfl (fun _ => .inl hs))
  next hs =>
    cases he
    refine State.PlansSound.settle (State.PlansSound.keeps ?_ (.recordPost _ _ _))
    unfold State.escalateStop
    split
    next => exact h
    next => exact h.dropWork (.cancelLoad rfl rfl id)
  all_goals
    cases he
    exact h.keeps (.recordPost _ _ _)

theorem State.KeepsPlans.closeCutShort (s : State) : s.KeepsPlans s.closeCutShort := by
  unfold State.closeCutShort
  split
  next => exact .refl s
  next i hi => exact .closeBank (State.openBank_phase hi) _ _

theorem State.PlansSound.acceptStopFinish {s : State} (h : s.PlansSound) (hs : s.control.survey = .running) :
    s.acceptStopFinish.PlansSound := by
  let u : State := State.callPosition { s with control := { s.control with
    survey := .stopping, stopPhase := .draining, stopMode := .finish } }
  have hclosed : u.KeepsPlans ((u.discardCurrent .waiting).shutIntake.leaveSurveying .counting).closeCutShort :=
    ((State.KeepsPlans.discardCurrent u .waiting).trans (.of_eq (by simp) (by simp) (by simp))).trans (.closeCutShort _)
  have hcancelled : s.KeepsPlans u.cancelLoad := .cancelLoad rfl rfl (fun _ => .inl hs)
  refine State.PlansSound.advanceEvaluation (State.PlansSound.keeps (h.keeps (hcancelled.trans hclosed.cancelled)) ?_)
  exact .of_eq rfl rfl rfl

/-! ### Sets filled by a load, and sets emptied (R114, R124, R126, R128) -/

/-- A set just loaded takes a mark that the other does not carry. -/
theorem State.SetsSound.marked {s t : State} (h : s.SetsSound) {j : SetId} {m : SetMark}
    (hj : (s.planSet j).status = .invalid ∧ (s.planSet j).mark = .unmarked)
    (hm : m = .active ∧ (∀ i, (s.bank i).phase ≠ .opened) ∨
      m = .pending ∧ (t.control.survey = .running ∨ t.control.survey = .stopping ∨
        t.control.startPhase = .initialising → s.control.survey = .running ∨ s.control.survey = .stopping ∨
        s.control.startPhase = .initialising))
    (hother : ∀ k, k ≠ j → (s.planSet k).mark ≠ m)
    (hself : (t.planSet j).status = .loaded ∧ (t.planSet j).mark = m ∧
      (t.planSet j).references = (s.planSet j).references)
    (hset : ∀ k, k ≠ j → t.planSet k = s.planSet k) (hbank : ∀ i, t.bank i = s.bank i) : t.SetsSound := by
  obtain ⟨hinvalid, hunmarked⟩ := hj
  obtain ⟨hstatus, hmark, hrefs⟩ := hself
  have hzero : (s.planSet j).references = 0 := h.invalidFree j hinvalid
  have hcount (k : SetId) : (t.planSet k).references = (s.planSet k).references := by
    by_cases hk : k = j
    · rw [hk, hrefs]
    · rw [hset k hk]
  have hactive (hp : m = .pending) : t.activeSet = s.activeSet := State.activeSet_of_active fun k => by
    by_cases hk : k = j
    · rw [hk, hmark, hp, hunmarked]
      decide
    · rw [hset k hk]
  constructor
  case oneEach =>
    intro k l hkl _
    by_cases hk : k = j
    · by_contra hne
      have hl : l ≠ j := fun e => hne (hk.trans e.symm)
      exact hother l hl (by rw [← hset l hl, ← hkl, hk, hmark])
    · by_cases hl : l = j
      · exact absurd (by rw [← hset k hk, hkl, hl, hmark]) (hother k hk)
      · exact SetId.eq_of_ne_of_ne hk hl
  case markedLoaded =>
    intro k hk
    by_cases hkj : k = j
    · rw [hkj, hstatus]
    · rw [hset k hkj] at hk ⊢
      exact h.markedLoaded k hk
  case pendingFree =>
    intro k hk
    rw [hcount]
    by_cases hkj : k = j
    · rw [hkj, hzero]
    · exact h.pendingFree k (hset k hkj ▸ hk)
  case invalidFree =>
    intro k hk
    rw [hcount]
    by_cases hkj : k = j
    · rw [hkj, hzero]
    · exact h.invalidFree k (hset k hkj ▸ hk)
  case counted =>
    intro k
    have hbound : t.bound k = s.bound k := by simp only [State.bound_eq _ .bank0, hbank]
    rw [hcount, hbound]
    exact h.counted k
  case freeUnbound => intro i; rw [hbank]; exact h.freeUnbound i
  case openBound =>
    intro i hi
    rw [hbank] at hi ⊢
    rcases hm with ⟨-, hclosed⟩ | ⟨hp, -⟩
    · exact absurd hi (hclosed i)
    · rw [h.openBound i hi, hactive hp]
  case activeInSurvey =>
    intro hs
    rcases hm with ⟨rfl, -⟩ | ⟨hp, hsurvey⟩
    · exact State.activeSet_ne_none hmark
    · rw [hactive hp]
      exact h.activeInSurvey (hsurvey hs)

/-- No bank holds a station and both sets are INVALID: what START and the end of a stop bring about (R126, R128). -/
theorem State.SetsSound.of_invalid {s : State}
    (hset : ∀ j, (s.planSet j).status = .invalid ∧ (s.planSet j).mark = .unmarked ∧ (s.planSet j).references = 0)
    (hfree : ∀ i, (s.bank i).phase = .free) (hunbound : ∀ i, (s.bank i).planReference = none)
    (hsurvey : ¬ (s.control.survey = .running ∨ s.control.survey = .stopping ∨ s.control.startPhase = .initialising)) :
    s.SetsSound := by
  have hmark (j : SetId) : (s.planSet j).mark = .unmarked := (hset j).2.1
  have hrefs (j : SetId) : (s.planSet j).references = 0 := (hset j).2.2
  constructor
  case oneEach => exact fun j _ _ hj => absurd (hmark j) hj
  case markedLoaded => exact fun j hj => absurd (hmark j) hj
  case pendingFree => exact fun j _ => hrefs j
  case invalidFree => exact fun j _ => hrefs j
  case counted =>
    intro j
    rw [hrefs, State.bound_eq s .bank0, Bank.boundTo_of_free (hfree _), Bank.boundTo_of_free (hfree _)]
    rfl
  case freeUnbound => exact fun i _ => hunbound i
  case openBound =>
    intro i hi
    rw [hfree] at hi
    cases hi
  case activeInSurvey => exact fun hs => absurd hs hsurvey

theorem State.SetsSound.reset : State.reset.SetsSound :=
  .of_invalid (SetId.forall_iff.2 (by decide)) (by intro i; cases i <;> rfl) (by intro i; cases i <;> rfl) (by decide)

theorem State.PlansSound.resetBlocks (s : State) (k : BitVec 8) (a : Word) (e : Bool) :
    (s.resetBlocks k a e).PlansSound :=
  (State.SetsSound.reset.plans (.of_idle rfl)).keeps (.of_sets rfl rfl rfl (.inl rfl) id (fun _ hl => absurd rfl hl))

theorem State.invalidateSets_planSet (s : State) (j : SetId) : s.invalidateSets.planSet j = (s.planSet j).invalidated := by
  cases j <;> rfl

theorem State.PlansSound.invalidateSets {s t : State} (h : s.PlansSound) (hbank : ∀ i, t.bank i = s.bank i)
    (hfree : ∀ i, (s.bank i).phase = .free)
    (hsurvey : ¬ (t.control.survey = .running ∨ t.control.survey = .stopping ∨ t.control.startPhase = .initialising)) :
    t.invalidateSets.PlansSound := by
  refine State.SetsSound.plans ?_ (.of_idle rfl)
  have hbank' : ∀ i, t.invalidateSets.bank i = s.bank i := fun i => by
    rw [State.bank_of_accumulator (show t.invalidateSets.accumulator = t.accumulator from rfl), hbank]
  refine .of_invalid (fun j => ?_) (fun i => by rw [hbank', hfree]) (fun i => ?_) hsurvey
  · rw [State.invalidateSets_planSet]
    exact ⟨rfl, rfl, rfl⟩
  · rw [hbank']
    exact h.freeUnbound i (hfree i)

/-! ### The loads of START (R113, R126, R165, R166) -/

theorem State.KeepsPlans.abandonStart (s : State) : s.KeepsPlans s.abandonStart := by
  unfold State.abandonStart
  split
  next hs => exact .of_sets rfl rfl rfl (.inl rfl) (by simp) (by simp [hs])
  all_goals exact .refl s

theorem State.KeepsPlans.refuseLoad (s : State) (r : SetupRefusal) : s.KeepsPlans (s.refuseLoad r) :=
  .of_sets rfl rfl rfl (.inr rfl) id (fun _ hl => absurd rfl hl)

theorem State.KeepsPlans.refuseSetup (s : State) (r : SetupRefusal) : s.KeepsPlans (s.refuseSetup r) :=
  (State.KeepsPlans.refuseLoad s r).trans (.abandonStart _)

theorem State.KeepsPlans.beginCalibration (s : State) : s.KeepsPlans s.beginCalibration := by
  unfold State.beginCalibration
  dsimp only
  split
  next => exact .refuseSetup s _
  next =>
    refine .trans ?_ (.place _ _ _)
    exact .of_sets rfl rfl rfl (.inl rfl) id (fun hr _ => hr)

theorem State.KeepsPlans.headerArrived (s : State) (ws : List Word) : s.KeepsPlans (s.headerArrived ws) := by
  unfold State.headerArrived
  split
  next =>
    refine .trans ?_ (.abandonStart _)
    exact .of_eq (by simp) (by simp) (by simp)
  next =>
    refine .trans ?_ (.beginCalibration _)
    refine .of_sets rfl rfl rfl (.inl rfl) ?_ (fun hr _ => hr)
    rintro (hs | hs | hs)
    · exact .inl hs
    · exact .inr (.inl hs)
    · cases hs

theorem State.PlansSound.loadStartPlan {s : State} (h : s.PlansSound) (hs : s.control.survey = .starting)
    (hfree : ∀ i, (s.bank i).phase = .free) : s.loadStartPlan.PlansSound := by
  have hinvalid : State.PlansSound (State.invalidateSets { s with control := { s.control with startPhase := .plan } }) :=
    h.invalidateSets (State.bank_of_accumulator rfl) hfree (by simp [hs])
  have hbegun := hinvalid.sets.beginLoad (j := .x) rfl (show SetMark.unmarked ≠ .active by decide) (fun _ k _ => by cases k <;> rfl)
    s.control.planOffset.toNat
  unfold State.loadStartPlan
  dsimp only
  split
  next => exact hbegun.keeps (.abandonStart _)
  next => exact hbegun
  next => exact hbegun

theorem State.PlansSound.calibrationArrived {s : State} (h : s.PlansSound) (hs : s.control.survey = .starting)
    (hfree : ∀ i, (s.bank i).phase = .free) (data : List Word) : (s.calibrationArrived data).PlansSound := by
  unfold State.calibrationArrived
  dsimp only
  split
  next =>
    refine State.PlansSound.keeps ?_ (.place _ _ _)
    exact h.keeps (.of_sets rfl rfl rfl (.inl rfl) id (fun hr _ => hr))
  next =>
    unfold State.checkCalibration
    split
    next => exact h.keeps (.refuseSetup s _)
    next =>
      refine State.PlansSound.loadStartPlan ?_ hs (fun i => ?_)
      · exact h.keeps (.of_sets rfl rfl rfl (.inl rfl) id (fun hr _ => hr))
      · exact (congrArg Bank.phase (State.bank_of_accumulator rfl i)).trans (hfree i)

/-! ### The arrival of a plan (R114, R115, R124, R126) -/

theorem State.KeepsPlans.copyArrived (s : State) (j : SetId) (ws : List Word) : s.KeepsPlans (s.copyArrived j ws) := by
  have hset (k : SetId) : (s.copyArrived j ws).planSet k =
      { s.planSet k with tables := ((s.copyArrived j ws).planSet k).tables } := by
    unfold State.copyArrived
    rw [State.planSet_setPlanSet_if]
    split
    next hk => rw [hk]
    next => rfl
  have hbank : ∀ i, (s.copyArrived j ws).bank i = s.bank i := State.bank_of_accumulator (by simp)
  have hload : (s.copyArrived j ws).loader.load = s.loader.load := State.setPlanSet_load _ _ _
  constructor
  case status => intro k; rw [hset]
  case mark => intro k; rw [hset]
  case references => intro k; rw [hset]
  case load => exact .inl hload
  all_goals simp +contextual [hbank]

theorem State.PlansSound.askPlan {s : State} (h : s.PlansSound) {j : SetId} {o : Nat} {f : LoadPhase} {had : List Word}
    (hl : s.loader.load = .copying j o f had) (o' : Nat) (f' : LoadPhase) (p : Purpose) (ws : List Word) (n : Nat) :
    (s.askPlan j o' f' p ws n).PlansSound := by
  refine State.PlansSound.keeps ?_ (.place _ _ _)
  have hbusy : s.loader.load ≠ .idle := by rw [hl]; simp
  have hsets : State.SetsSound { s with loader := { s.loader with load := .copying j o' f' ws } } := by
    obtain ⟨h1, h3, h4, h5, h6, h7, h8, h9⟩ := h.sets
    exact ⟨h1, h3, h4, h5, h6, h7, h8, h9⟩
  refine hsets.plans ⟨?_, ?_, ?_⟩
  · rintro k o'' p' ws' hc
    cases hc
    exact h.copied _ _ _ _ hl
  · rintro k o'' hw
    cases hw
  · exact fun hr _ => h.load.loadUnmarked hr hbusy

/-- The sets and the load when a load has passed, before a START goes on to INITIALISING. -/
def State.setLoaded (s : State) (j : SetId) (o : Nat) (ws : List Word) : State :=
  let u := s.setPlanSet j { s.planSet j with
    status := .loaded, mark := if s.control.survey = .starting then .active else .pending
    generation := natAt ws 1, offset := o }
  { u with loader := { u.loader with load := .idle } }

theorem State.loadPassed_eq (s : State) (j : SetId) (o : Nat) (ws : List Word) :
    s.loadPassed j o ws =
      if s.control.survey = .starting then (s.setLoaded j o ws).initialiseBlocks else s.setLoaded j o ws := by
  cases j <;> rfl

theorem State.loadPassed_loader (s : State) (j : SetId) (o : Nat) (ws : List Word) :
    (s.loadPassed j o ws).loader = (s.setLoaded j o ws).loader := by
  rw [State.loadPassed_eq]
  split
  next => simp
  next => rfl

theorem State.loadPassed_planSet (s : State) (j k : SetId) (o : Nat) (ws : List Word) :
    (s.loadPassed j o ws).planSet k = if k = j then { s.planSet j with
        status := .loaded, mark := if s.control.survey = .starting then .active else .pending
        generation := natAt ws 1, offset := o }
      else s.planSet k := by
  rw [← State.planSet_setPlanSet_if, State.planSet_of_loader (s.loadPassed_loader j o ws)]
  cases k <;> rfl

theorem State.initialiseBlocks_bank (s : State) (i : BankId) : s.initialiseBlocks.bank i = s.bank i := by
  cases i <;> simp [State.bank, State.initialiseBlocks]

theorem State.loadPassed_bank (s : State) (j : SetId) (o : Nat) (ws : List Word) (i : BankId) :
    (s.loadPassed j o ws).bank i = s.bank i := by
  have hloaded : (s.setLoaded j o ws).bank i = s.bank i := by cases i <;> cases j <;> rfl
  rw [State.loadPassed_eq]
  split
  next => rw [State.initialiseBlocks_bank, hloaded]
  next => exact hloaded

/-- R124, R126: in RUNNING the other set is ACTIVE when a load passes, and in every other state it is unmarked. -/
theorem State.PlansSound.other_mark {s : State} (h : s.PlansSound) {j k : SetId} {o : Nat} {p : LoadPhase}
    {ws : List Word} (hl : s.loader.load = .copying j o p ws) (hk : k ≠ j) :
    (s.control.survey = .running → (s.planSet k).mark = .active) ∧
    (s.control.survey ≠ .running → (s.planSet k).mark = .unmarked) := by
  refine ⟨fun hs => ?_, fun hs => h.load.loadUnmarked hs (by rw [hl]; simp) k⟩
  obtain ⟨-, hunmarked⟩ := h.copied _ _ _ _ hl
  cases hact : s.activeSet with
  | none => exact absurd hact (h.activeInSurvey (.inl hs))
  | some a =>
    have ha := State.activeSet_mark hact
    have haj : a ≠ j := fun e => by rw [e, hunmarked] at ha; cases ha
    rwa [SetId.eq_of_ne_of_ne hk haj]

theorem State.PlansSound.loadPassed {s : State} (h : s.PlansSound) {j : SetId} {o : Nat} {p : LoadPhase}
    {ws : List Word} (hl : s.loader.load = .copying j o p ws)
    (hfree : s.control.survey = .starting → ∀ i, (s.bank i).phase = .free) (o' : Nat) (ws' : List Word) :
    (s.loadPassed j o' ws').PlansSound := by
  have hset := fun k => State.loadPassed_planSet s j k o' ws'
  have hself := hset j
  rw [if_pos rfl] at hself
  have hload : (s.loadPassed j o' ws').loader.load = .idle := by rw [State.loadPassed_loader]; rfl
  refine (h.sets.marked (h.copied _ _ _ _ hl) ?_ ?_ ⟨by rw [hself], rfl, by rw [hself]⟩
    (fun k hk => by rw [hset, if_neg hk]) (s.loadPassed_bank j o' ws')).plans (.of_idle hload)
  · by_cases hs : s.control.survey = .starting
    · exact .inl ⟨by rw [hself]; exact if_pos hs, fun i hi => by rw [hfree hs] at hi; cases hi⟩
    · have hcontrol : (s.loadPassed j o' ws').control = s.control := by
        rw [State.loadPassed_eq, if_neg hs]
        cases j <;> rfl
      exact .inr ⟨by rw [hself]; exact if_neg hs, by rw [hcontrol]; exact id⟩
  · intro k hk
    obtain ⟨hrun, hrest⟩ := h.other_mark hl hk
    rw [hself]
    by_cases hs : s.control.survey = .running
    · rw [hrun hs]
      simp [hs]
    · rw [hrest hs]
      dsimp only
      split <;> decide

theorem State.PlansSound.planArrived {s : State} (h : s.PlansSound)
    (hfree : s.control.survey = .starting → ∀ i, (s.bank i).phase = .free) (data : List Word) :
    (s.planArrived data).PlansSound := by
  have hcopied (j : SetId) (ws : List Word) : (s.copyArrived j ws).PlansSound := h.keeps (.copyArrived s j ws)
  have hload (j : SetId) (ws : List Word) : (s.copyArrived j ws).loader.load = s.loader.load :=
    State.setPlanSet_load _ _ _
  unfold State.planArrived
  split
  next j o had hl =>
    unfold State.planHeaderArrived
    split
    next => exact h.askPlan hl _ _ _ _ _
    next =>
      split
      next => exact h.keeps (.refuseSetup s _)
      next => exact (hcopied j _).askPlan ((hload j _).trans hl) _ _ _ _ _
  next j o had hl =>
    unfold State.planArraysArrived
    dsimp only
    split
    next => exact (hcopied j _).askPlan ((hload j _).trans hl) _ _ _ _ _
    next =>
      split
      next => exact (hcopied j _).keeps (.refuseSetup _ _)
      next =>
        refine (hcopied j _).loadPassed ((hload j _).trans hl) (fun hs i => ?_) _ _
        rw [State.bank_of_accumulator (s := s) (t := s.copyArrived j (had ++ data)) (by simp), hfree (by simpa using hs)]
  next => exact h
  next => exact h

/-! ### The bursts that end a START or a stop (R144, R167, R170) -/

theorem State.PlansSound.completeStart {s : State} (h : s.PlansSound) (hs : s.control.startPhase = .initialising)
    (hfree : ∀ i, (s.bank i).phase = .free) : s.completeStart.PlansSound := by
  have hopened := h.openStationIn (hfree s.freshBank) s.stationNow
  unfold State.completeStart
  refine State.PlansSound.keeps (s := { s.openFirstStation.sendRun.openIntake with
    control := { s.openFirstStation.sendRun.openIntake.control with survey := .running, startPhase := .unset } })
    ?_ (.of_eq (by simp) (by simp) (by simp))
  refine hopened.keeps (.of_sets ?_ ?_ ?_ (.inl ?_) (fun _ => .inr (.inr ?_)) (fun hr => absurd rfl hr))
  all_goals simp [State.openFirstStation, hs]

theorem State.KeepsPlans.raiseStopped (s : State) (a : BitVec 24) (p : Word) : s.KeepsPlans (s.raiseStopped a p) :=
  .of_eq rfl rfl rfl

theorem State.KeepsPlans.callPosition (s : State) : s.KeepsPlans s.callPosition :=
  .of_eq rfl rfl rfl

theorem State.PlansSound.stopWritten {s : State} (h : s.PlansSound)
    (hfree : s.control.stopPhase = .ending → ∀ i, (s.bank i).phase = .free)
    (hstart : s.control.survey = .stopping → s.control.startPhase = .unset) : s.stopWritten.PlansSound := by
  unfold State.stopWritten
  split
  next hs hp =>
    dsimp only
    refine State.PlansSound.keeps ?_ (.trans (.raiseStopped _ _ _) (.callPosition _))
    refine h.invalidateSets (fun i => ?_) (hfree hp) ?_
    · exact State.bank_of_accumulator (by simp) i
    · simp [hstart hs]
  next => exact h

theorem State.PlansSound.closeWritten {s : State} (h : s.PlansSound)
    (hfree : s.control.stopPhase = .ending → ∀ i, (s.bank i).phase = .free)
    (hstart : s.control.survey = .stopping → s.control.startPhase = .unset) : s.closeWritten.PlansSound := by
  unfold State.closeWritten
  split
  next => exact h
  next f _ =>
    have hclosed : State.PlansSound { s with
        sheets := { s.sheets with filling := none, closedSheets := s.sheets.closedSheets ++ [f.sheet] }
        notices := { s.notices with unannounced := s.notices.unannounced ++ [f.sheet] } } :=
      h.keeps (.of_eq rfl rfl rfl)
    dsimp only
    split
    next =>
      unfold State.beginHeld
      split
      next =>
        refine hclosed.stopWritten (fun hp i => ?_) hstart
        exact (congrArg Bank.phase (State.bank_of_accumulator rfl i)).trans (hfree hp i)
      next => exact hclosed.keeps (.place _ _ _)
    next => exact h.keeps (.of_eq (by simp) (by simp) (by simp))

theorem State.KeepsPlans.setBank_flags (s : State) (i : BankId) (f : StationFlags) :
    s.KeepsPlans (s.setBank i { s.bank i with flags := f }) :=
  s.keepsPlans_setBank i rfl Iff.rfl id

theorem State.KeepsPlans.judgeBaseline (s : State) : s.KeepsPlans s.judgeBaseline := by
  unfold State.judgeBaseline
  split
  next => exact .refl s
  next i _ => exact (State.KeepsPlans.setBank_flags s i _).trans (.of_bank (fun k => by cases k <;> rfl) rfl rfl)

theorem State.KeepsPlans.baselineArrived (s : State) (data : List Word) : s.KeepsPlans (s.baselineArrived data) := by
  unfold State.baselineArrived
  dsimp only
  split
  next =>
    refine .trans ?_ (.judgeBaseline _)
    exact .of_eq rfl rfl rfl
  next => exact .of_eq rfl rfl rfl

theorem State.PlansSound.deliver {s : State} (h : s.PlansSound)
    (hending : s.control.stopPhase = .ending → ∀ i, (s.bank i).phase = .free)
    (hstarting : s.control.survey = .starting → ∀ i, (s.bank i).phase = .free)
    (hstart : s.control.survey = .stopping → s.control.startPhase = .unset) (p : Purpose) (data : List Word) :
    (s.deliver p data).PlansSound := by
  cases p with
  | baseline => exact h.keeps (.baselineArrived s data)
  | fillingEntry => exact h.keeps (.of_eq (t := s.beginRecord) (by simp) (by simp) (by simp))
  | record =>
    unfold State.deliver
    dsimp only
    split
    next => exact h.keeps (.of_eq (by simp) (by simp) (by simp))
    next => exact h
  | closedEntry => exact h.closeWritten hending hstart
  | queuedEntry =>
    unfold State.deliver State.endInitialising
    dsimp only
    split
    next =>
      split
      next hs hp => exact h.completeStart hp (hstarting hs)
      next => exact h
    next => exact h
  | heldEntry =>
    unfold State.deliver
    dsimp only
    split
    next => exact h.stopWritten hending hstart
    next => exact h
  | areaHeader =>
    unfold State.deliver
    dsimp only
    split
    next => exact h.keeps (.headerArrived s data)
    next => exact h
  | calibration =>
    unfold State.deliver
    dsimp only
    split
    next hs => exact h.calibrationArrived hs (hstarting hs) data
    next => exact h
  | planHeader => exact h.planArrived hstarting data
  | planArrays => exact h.planArrived hstarting data
  | _ => exact h

theorem State.PlansSound.execBurstComplete {s t : State} (h : s.PlansSound) (hm : s.ModesSound) (hst : s.StationsSound)
    {data : Vector Word 16} (he : execBurstComplete data s = .next t) : t.PlansSound := by
  unfold Machine.execBurstComplete at he
  split at he
  next => cases he; exact h
  next g _ =>
    have hended : (s.endGrant g).PlansSound := h.keeps (.of_eq (by simp) (by simp) (by simp))
    split at he
    next => cases he; exact hended.settle
    next =>
      cases he
      have hbank : ∀ i, (s.endGrant g).bank i = s.bank i := State.bank_of_accumulator (by simp)
      have hcontrol : (s.endGrant g).control = s.control := by simp
      refine (hended.deliver ?_ ?_ ?_ _ _).settle
      · intro hp i
        rw [hbank]
        exact hst.endingIsEmpty (hcontrol ▸ hp) i
      · intro hs i
        rw [hcontrol] at hs
        rw [hbank]
        exact hst.otherwiseEmpty (by rw [hs]; decide) (by rw [hs]; decide) i
      · rw [hcontrol]
        exact fun hs => hm.startPhaseInStarting.2 (by rw [hs]; decide)

/-! ### Commits, assessments and posts -/

theorem State.KeepsPlans.freeBuffer (s : State) (i : BufferId) : s.KeepsPlans (s.freeBuffer i) :=
  .of_eq (by simp) (by simp) (by simp)

theorem State.KeepsPlans.endCommit (s : State) (k : Commit) : s.KeepsPlans (s.endCommit k) := by
  have hcommitted : s.KeepsPlans (if s.holdsTag k.tag then s.setBank k.tag.bank
      ((s.bank k.tag.bank).commitRevolution s.calibration k (s.buffer k.buffer).samples) else s) := by
    split
    next =>
      apply s.keepsPlans_setBank <;> unfold Bank.commitRevolution <;> rw [Bank.foldSamples_eq]
      exact id
    next => exact .refl s
  refine ((hcommitted.trans (.dropInHand _ k.tag)).trans (.freeBuffer _ k.buffer)).trans
    (.of_bank (fun i => ?_) rfl rfl)
  cases i <;> rfl

theorem State.PlansSound.execCommitEnd {s t : State} (h : s.PlansSound) (he : execCommitEnd s = .next t) :
    t.PlansSound := by
  unfold Machine.execCommitEnd at he
  split at he
  next => cases he; exact h
  next k _ =>
    cases he
    exact ((h.keeps (.endCommit s k)).keeps (.judgeHanded _)).advanceEvaluation.settle

theorem State.KeepsPlans.decideBaseline (s : State) (i : BankId) : s.KeepsPlans (s.decideBaseline i) := by
  unfold State.decideBaseline
  dsimp only
  split
  next => exact .refl s
  next =>
    split
    next => exact (State.KeepsPlans.setBank_flags s i _).trans (.of_bank (fun k => by cases k <;> rfl) rfl rfl)
    next => exact .of_eq (by simp) (by simp) (by simp)

theorem State.PlansSound.execEvaluationPassEnd {s t : State} (h : s.PlansSound) (he : execEvaluationPassEnd s = .next t) :
    t.PlansSound := by
  unfold Machine.execEvaluationPassEnd at he
  split at he
  next i _ _ =>
    cases he
    refine State.PlansSound.settle (h.keeps ?_)
    unfold State.endEvaluation
    dsimp only
    refine State.KeepsPlans.trans ?_ (.decideBaseline _ i)
    exact (State.KeepsPlans.setBank_flags s i _).trans (.of_bank (fun k => by cases k <;> rfl) rfl rfl)
  next => cases he; exact h

theorem State.PlansSound.execComparisonPassEnd {s t : State} (h : s.PlansSound) (he : execComparisonPassEnd s = .next t) :
    t.PlansSound := by
  unfold Machine.execComparisonPassEnd at he
  split at he
  next i rail _ _ _ =>
    cases he
    have hraised := (h.keeps (.offer s (s.evaluatedRecord i rail (s.levelResults i)))).keeps
      (t := (s.offer (s.evaluatedRecord i rail (s.levelResults i))).raiseAlert (s.bank i).first rail.summary
        (deformSummary 0 none (s.levelResults i))) (.of_eq (by simp) (by simp) (by simp))
    have hfreed := (hraised.freeBank i).keeps (t := State.comparatorIdle _) (.of_eq rfl rfl rfl)
    exact hfreed.takeHeldBoundary.advanceEvaluation.settle
  next => cases he; exact h

theorem State.PlansSound.execStart {s t : State} (h : s.PlansSound) {o : BitVec 24} (he : execStart o s = .next t) :
    t.PlansSound := by
  unfold Machine.execStart at he
  split at he
  next hs =>
    cases he
    refine State.PlansSound.settle (State.PlansSound.keeps (h.keeps (.trans ?_ (.place _ _ _))) (.recordPost _ _ _))
    refine .of_sets rfl rfl rfl (.inl rfl) ?_ ?_
    · rintro (hs | hs | hs) <;> cases hs
    · exact fun _ _ hrun => absurd (hs.symm.trans hrun) (by decide)
  all_goals
    cases he
    exact h.keeps (.recordPost _ _ _)

theorem State.SetsSound.spare_not_active {s : State} (h : s.SetsSound) : (s.planSet s.spareSet).mark ≠ .active := by
  unfold State.spareSet
  split
  next hx =>
    have hx' : (s.planSet .x).mark = .active := hx
    exact fun hy => absurd (h.oneEach .x .y (hx'.trans hy.symm) (by rw [hx']; decide)) (by decide)
  next hx => exact hx

/-- R120: the target of a PLAN post is referenced by no bank where the load does not wait for it. -/
theorem State.PlansSound.acceptPlan {s : State} (h : s.PlansSound) (hs : s.control.survey = .running) (o : BitVec 24) :
    (s.acceptPlan o).PlansSound := by
  have hcancelled : s.cancelLoad.PlansSound := h.keeps (.cancelLoad rfl rfl id)
  have hrun : s.cancelLoad.control.survey = .running := by simpa using hs
  have hspare := hcancelled.sets.spare_not_active
  unfold State.acceptPlan
  generalize s.cancelLoad = u at hcancelled hrun hspare ⊢
  dsimp only
  split
  next hwait =>
    have hsets : State.SetsSound { u with loader := { u.loader with load := .waiting u.spareSet o.toNat } } := by
      obtain ⟨h1, h3, h4, h5, h6, h7, h8, h9⟩ := hcancelled.sets
      exact ⟨h1, h3, h4, h5, h6, h7, h8, h9⟩
    refine hsets.plans ⟨by simp, ?_, fun hr => absurd hrun hr⟩
    rintro j q hw
    cases hw
    exact hwait
  next hbegin =>
    refine hcancelled.sets.beginLoad ?_ hspare (fun hr => absurd hrun hr) _
    cases hst : (u.planSet u.spareSet).status with
    | invalid => exact hcancelled.invalidFree _ hst
    | loaded =>
      cases hm : (u.planSet u.spareSet).mark with
      | active => exact absurd hm hspare
      | pending => exact hcancelled.pendingFree _ hm
      | unmarked => exact Nat.eq_zero_of_not_pos fun hn => hbegin ⟨hst, hm, hn⟩

theorem State.PlansSound.judgeReturn {s : State} (h : s.PlansSound) (n : Nat) : (s.judgeReturn n).PlansSound := by
  unfold State.judgeReturn
  split
  next =>
    refine State.PlansSound.settle (State.PlansSound.keeps ?_ (.recordPost _ _ _))
    exact h.keeps (.of_eq (by simp) (by simp) (by simp))
  next => exact h.keeps (.recordPost _ _ _)

/-! ### Every command (R118 to R128) -/

/-- The commands of the link, the two lines and the passes keep the plan sets sound. -/
theorem State.PlansSound.exec {c : Instr} {s t : State} (h : s.PlansSound) (hm : s.ModesSound) (hst : s.StationsSound)
    (he : exec c s = .next t) : t.PlansSound := by
  cases c with
  | sampleWord =>
    unfold Machine.exec Machine.execSampleWord at he
    dsimp only at he
    split at he
    next =>
      split at he
      next => cases he; exact h.keeps (.of_eq (by simp) (by simp) (by simp))
      next => cases he; exact (h.discard _).settle
    next => cases he; exact h
  | goodMark => exact h.execGoodMark he
  | fillWord => cases he; exact h
  | haltWord =>
    unfold Machine.exec Machine.execHaltWord at he
    dsimp only at he
    split at he
    next => cases he; exact h
    next => cases he; exact h.linkFault _
  | wordError =>
    unfold Machine.exec Machine.execWordError at he
    dsimp only at he
    split at he
    next => cases he; exact (h.discard _).settle
    next => cases he; exact h
  | markTimerExpiry =>
    unfold Machine.exec Machine.execMarkTimerExpiry at he
    dsimp only at he
    split at he
    next => cases he; exact h
    next => cases he; exact h.linkFault _
  | cantReply =>
    unfold Machine.exec Machine.execCantReply at he
    dsimp only at he
    split at he
    next => cases he; exact h
    next =>
      split at he
      next => cases he; exact h.keeps (.of_eq (by simp) (by simp) (by simp))
      next => cases he; exact h.keeps (.of_eq (by simp) (by simp) (by simp))
  | replyTimerExpiry =>
    unfold Machine.exec Machine.execReplyTimerExpiry at he
    dsimp only at he
    split at he
    next => cases he; exact h
    next => cases he; exact h.keeps (.of_eq (by simp) (by simp) (by simp))
  | odometerStep => exact h.execOdometerStep hm hst he
  | markerArrival =>
    unfold Machine.exec Machine.execMarkerArrival at he
    dsimp only at he
    split at he
    next => cases he; exact h
    next =>
      split at he
      next => cases he; exact h.keeps (.of_eq rfl rfl rfl)
      next => cases he; exact h.keeps (.of_eq rfl rfl rfl)
      next => cases he; exact h
  | markerTaking => exact h.execMarkerTaking he
  | commitEnd => exact h.execCommitEnd he
  | evaluationPassEnd => exact h.execEvaluationPassEnd he
  | comparisonPassEnd => exact h.execComparisonPassEnd he
  | burstComplete => exact h.execBurstComplete hm hst he
  | busError =>
    unfold Machine.exec Machine.execBusError at he
    dsimp only at he
    split at he
    next => cases he; exact h
    next =>
      cases he
      exact State.PlansSound.enterFaulted (h.keeps (.of_eq (by simp) (by simp) (by simp))) _ _
  | noticeRead =>
    unfold Machine.exec Machine.execNoticeRead at he
    dsimp only at he
    split at he
    next => cases he; exact h.keeps (.of_eq rfl rfl rfl)
    next => cases he; exact h.keeps (.of_eq rfl rfl rfl)
  | areaWrite =>
    unfold Machine.exec Machine.execAreaWrite at he
    dsimp only at he
    split at he
    next hs => cases he; exact h.keeps (.of_sets rfl rfl rfl (.inl rfl) id (fun hr _ => hr))
    all_goals cases he; exact h
  | interruptEnableWrite => cases he; exact h.keeps (.of_sets rfl rfl rfl (.inl rfl) id (fun hr _ => hr))
  | ignoredRegisterWrite => cases he; exact h
  | start => exact h.execStart he
  | plan =>
    unfold Machine.exec Machine.execPlan at he
    dsimp only at he
    split at he
    next hs =>
      cases he
      exact ((h.acceptPlan hs _).keeps (.recordPost _ _ _)).settle
    all_goals
      cases he
      exact h.keeps (.recordPost _ _ _)
  | returnSheet =>
    unfold Machine.exec Machine.execReturnSheet at he
    dsimp only at he
    split at he
    next => cases he; exact h.judgeReturn _
    next => cases he; exact h.judgeReturn _
    all_goals
      cases he
      exact h.keeps (.recordPost _ _ _)
  | stopFinish =>
    unfold Machine.exec Machine.execStopFinish at he
    dsimp only at he
    split at he
    next hs =>
      cases he
      exact ((h.acceptStopFinish hs).keeps (.recordPost _ _ _)).settle
    all_goals
      cases he
      exact h.keeps (.recordPost _ _ _)
  | stopDrop => exact h.execStopDrop (a := 0) he
  | reset => cases he; exact .resetBlocks _ _ _ _
  | unknownPostKind => cases he; exact h.keeps (.recordPost _ _ _)
  | fullReset => cases he; exact .resetBlocks _ _ _ _

/-- Settles O10: each command keeps the sets sound, and the queue is none of their matter. -/
theorem planMarksStaySound : Obligations.PlanMarksStaySound := by
  intro s t hm hst h he
  unfold step at he
  split at he
  next => cases he; exact h
  next c rest _ =>
    exact State.PlansSound.exec (s := { s with pending := rest }) { h with } { hm with } { hst with } he

end Sys2Proof.Machine
end

section
/-! PROOFS. The class and margin of a rail sector, the parameters and the template applied, and the summary; and O57. -/
namespace Sys2Proof.Machine

/-! ### The class of a sector and its margin (R83 to R89) -/

/-- R86 to R89: a sector that is not masked, is gauged and is seen has a margin and the class of its margin. -/
theorem assessSector_of_seen {radius : Nat} {cell : RailCell} (hr : radius ≠ 0) (hc : cell.count ≠ 0) (tolerance : Int)
    (warn : Nat) :
    assessSector false radius cell tolerance warn =
      { cls := marginClass ((cell.clearance : Int) - toleratedRadius radius tolerance) warn,
        margin := some ((cell.clearance : Int) - toleratedRadius radius tolerance) } := by
  simp [assessSector, hr, hc]

theorem marginClass_of_neg {margin : Int} (h : margin < 0) (warn : Nat) : marginClass margin warn = .encroach :=
  if_pos h

theorem marginClass_of_lt {margin : Int} {warn : Nat} (h : 0 ≤ margin) (hw : margin < warn) :
    marginClass margin warn = .near := by
  rw [marginClass, if_neg (by omega), if_pos hw]

theorem marginClass_of_le {margin : Int} {warn : Nat} (h : 0 ≤ margin) (hw : (warn : Int) ≤ margin) :
    marginClass margin warn = .clear := by
  rw [marginClass, if_neg (by omega), if_neg (by omega)]

/-- R87: the clearance as an integer. -/
theorem RailCell.clearance_eq (cell : RailCell) :
    (cell.clearance : Int) = if 2 ≤ cell.count then (cell.second : Int) else cell.least := by
  unfold RailCell.clearance
  split <;> rfl

/-! ### The template and the parameters applied (R80, R82, R59) -/

/-- R82: with no band that covers the radius the template is that of straight line. -/
theorem PlanTables.templateFor_of_beyond {p : PlanTables} {radius : Int}
    (h : ∀ b ∈ p.bands, b.limit < radius.natAbs) : p.templateFor radius = p.straight := by
  have hnone : p.bands.find? (fun b => decide (radius.natAbs ≤ b.limit)) = none := by
    simpa using h
  rw [PlanTables.templateFor, hnone]
  exact ite_self _

/-- R82: the first band that covers the radius gives the template of its side. -/
theorem PlanTables.templateFor_of_band {p : PlanTables} {radius : Int} {smaller larger : List Band}
    {band : Band} (hb : p.bands = smaller ++ band :: larger) (hc : radius.natAbs ≤ band.limit)
    (hs : ∀ b ∈ smaller, b.limit < radius.natAbs) (h0 : radius ≠ 0) :
    p.templateFor radius = if radius < 0 then band.left else band.right := by
  have hfirst : p.bands.find? (fun b => decide (radius.natAbs ≤ b.limit)) = some band := by
    rw [List.find?_eq_some_iff_append]
    exact ⟨decide_eq_true hc, smaller, larger, hb, by simpa using hs⟩
  rw [PlanTables.templateFor, if_neg h0, hfirst]

/-- R59: the zone of an edge is one of those that cover it. -/
theorem PlanTables.covers_of_zoneAt {p : PlanTables} {edge : Int} {k : Nat} (h : p.zoneAt edge = some k) :
    ∃ z, p.zones[k]? = some z ∧ z.first ≤ edge ∧ edge < z.past := by
  obtain ⟨hk, hcover, _⟩ := List.findIdx?_eq_some_iff_getElem.1 h
  exact ⟨p.zones[k], List.getElem?_eq_getElem hk, by simpa using hcover⟩

theorem PlanTables.zoneAt_eq_none_iff (p : PlanTables) (edge : Int) :
    p.zoneAt edge = none ↔ ∀ z ∈ p.zones, edge < z.first ∨ z.past ≤ edge := by
  simp only [PlanTables.zoneAt, List.findIdx?_eq_none_iff, Bool.and_eq_false_iff, decide_eq_false_iff_not, not_le, not_lt]

/-! ### The summary over a pass (R90, R91) -/

theorem ClearanceSummary.over_concat (m : ClearanceSummary) (k : Nat) (rs : List RailResult) (r : RailResult) :
    m.over k (rs ++ [r]) = ((m.over k rs).withMargin (k + rs.length) r.margin).withClass r.cls := by
  induction rs generalizing m k with
  | nil => rfl
  | cons x rest ih =>
    rw [List.cons_append, ClearanceSummary.over, ClearanceSummary.over, ih, List.length_cons, Nat.add_right_comm,
      Nat.add_assoc]

/-- R91: a class raises its own count and nothing else. -/
theorem ClearanceSummary.withClass_eq (m : ClearanceSummary) (cls : RailClass) :
    m.withClass cls =
      { m with
        encroach := m.encroach + if cls = .encroach then 1 else 0
        near := m.near + if cls = .near then 1 else 0
        blind := m.blind + if cls = .blind then 1 else 0 } := by
  cases cls <;> rfl

/-- R90: a margin touches the worst margin and its sector alone. -/
theorem ClearanceSummary.withMargin_eq (m : ClearanceSummary) (k : Nat) (margin : Option Int) :
    m.withMargin k margin =
      { m with worstMargin := (m.withMargin k margin).worstMargin, worstSector := (m.withMargin k margin).worstSector } := by
  unfold ClearanceSummary.withMargin
  split
  · rfl
  · rfl
  · split <;> rfl

/-- R91: the three counts are those of the classes. -/
def ClearanceSummary.CountsOf (m : ClearanceSummary) (rs : List RailResult) : Prop :=
  m.encroach = rs.countP (fun r => r.cls == .encroach) ∧ m.near = rs.countP (fun r => r.cls == .near) ∧
    m.blind = rs.countP (fun r => r.cls == .blind)

theorem ClearanceSummary.CountsOf.step {m : ClearanceSummary} {rs : List RailResult} (h : m.CountsOf rs) (k : Nat)
    (r : RailResult) : ((m.withMargin k r.margin).withClass r.cls).CountsOf (rs ++ [r]) := by
  obtain ⟨he, hn, hb⟩ := h
  rw [ClearanceSummary.withMargin_eq, ClearanceSummary.withClass_eq]
  simp [ClearanceSummary.CountsOf, List.countP_append, List.countP_singleton, he, hn, hb]

/-- The margin of a sector of a pass, where it has one. -/
def marginAt (rs : List RailResult) (j : Nat) : Option Int :=
  rs[j]?.bind RailResult.margin

theorem marginAt_concat_of_ne {rs : List RailResult} {j : Nat} (r : RailResult) (h : j ≠ rs.length) :
    marginAt (rs ++ [r]) j = marginAt rs j := by
  unfold marginAt
  rcases Nat.lt_or_gt_of_ne h with hlt | hgt
  · rw [List.getElem?_append_left hlt]
  · rw [List.getElem?_eq_none (by simpa using hgt), List.getElem?_eq_none (by omega)]

theorem marginAt_concat_length (rs : List RailResult) (r : RailResult) : marginAt (rs ++ [r]) rs.length = r.margin := by
  simp [marginAt]

theorem lt_length_of_marginAt {rs : List RailResult} {j : Nat} {x : Int} (h : marginAt rs j = some x) : j < rs.length := by
  obtain ⟨r, hr, _⟩ := Option.bind_eq_some_iff.1 h
  exact (List.getElem?_eq_some_iff.1 hr).1

/-- R90: the worst margin is the least of all, and the worst sector the lowest that has it; both absent where no sector has
a margin. -/
inductive WorstOf (rs : List RailResult) : Option Int → Option Nat → Prop
  | absent (h : ∀ j, marginAt rs j = none) : WorstOf rs none none
  | least {w : Int} {k : Nat} (h : marginAt rs k = some w)
      (hleast : ∀ j x, marginAt rs j = some x → w ≤ x ∧ (x = w → k ≤ j)) : WorstOf rs (some w) (some k)

/-- A sector with no margin changes nothing. -/
theorem WorstOf.concat_none {rs : List RailResult} {w : Option Int} {k : Option Nat} (h : WorstOf rs w k) {r : RailResult}
    (hr : r.margin = none) : WorstOf (rs ++ [r]) w k := by
  have hsame (j : Nat) : marginAt (rs ++ [r]) j = marginAt rs j := by
    by_cases hj : j = rs.length
    · rw [hj, marginAt_concat_length, hr]
      simp [marginAt]
    · exact marginAt_concat_of_ne r hj
  cases h with
  | absent h => exact .absent fun j => (hsame j).trans (h j)
  | least h hleast => exact .least ((hsame _).trans h) fun j x hx => hleast j x ((hsame j).symm.trans hx)

/-- A margin below those of all the sectors before it is the worst. -/
theorem WorstOf.concat_less {rs : List RailResult} {r : RailResult} {x : Int} (hr : r.margin = some x)
    (hless : ∀ j y, marginAt rs j = some y → x < y) : WorstOf (rs ++ [r]) (some x) (some rs.length) := by
  refine .least ((marginAt_concat_length rs r).trans hr) fun j y hy => ?_
  by_cases hj : j = rs.length
  · rw [hj, marginAt_concat_length, hr] at hy
    cases hy
    exact ⟨le_refl _, fun _ => hj.ge⟩
  · have hlt := hless j y ((marginAt_concat_of_ne r hj).symm.trans hy)
    exact ⟨hlt.le, fun heq => absurd heq hlt.ne'⟩

/-- A margin no less than the worst before it leaves the worst as it is. -/
theorem WorstOf.concat_not_less {rs : List RailResult} {w x : Int} {k : Nat} {r : RailResult}
    (h : WorstOf rs (some w) (some k)) (hr : r.margin = some x) (hx : w ≤ x) : WorstOf (rs ++ [r]) (some w) (some k) := by
  obtain - | ⟨hk, hleast⟩ := h
  have hbefore := lt_length_of_marginAt hk
  refine .least ((marginAt_concat_of_ne r hbefore.ne).trans hk) fun j y hy => ?_
  by_cases hj : j = rs.length
  · rw [hj, marginAt_concat_length, hr] at hy
    cases hy
    exact ⟨hx, fun _ => hj ▸ hbefore.le⟩
  · exact hleast j y ((marginAt_concat_of_ne r hj).symm.trans hy)

theorem WorstOf.step {m : ClearanceSummary} {rs : List RailResult} (h : WorstOf rs m.worstMargin m.worstSector)
    (r : RailResult) :
    WorstOf (rs ++ [r]) ((m.withMargin rs.length r.margin).withClass r.cls).worstMargin
      ((m.withMargin rs.length r.margin).withClass r.cls).worstSector := by
  rw [ClearanceSummary.withClass_eq]
  dsimp only
  unfold ClearanceSummary.withMargin
  split
  next hr => exact h.concat_none hr
  next x hr hm =>
    refine .concat_less hr fun j y hy => ?_
    rw [hm] at h
    generalize m.worstSector = k at h
    obtain ⟨hnone⟩ | _ := h
    exact absurd hy (by simp [hnone j])
  next x w hr hm =>
    rw [hm] at h
    generalize hk : m.worstSector = k at h
    obtain - | ⟨hw, hleast⟩ := h
    split
    next hlt => exact .concat_less hr fun j y hy => lt_of_lt_of_le hlt (hleast j y hy).1
    next hnlt =>
      rw [hm, hk]
      exact .concat_not_less (.least hw hleast) hr (not_lt.1 hnlt)

/-- R90, R91: the summary of a pass. -/
theorem ClearanceSummary.over_start (rs : List RailResult) :
    (ClearanceSummary.start.over 0 rs).CountsOf rs ∧
      WorstOf rs (ClearanceSummary.start.over 0 rs).worstMargin (ClearanceSummary.start.over 0 rs).worstSector := by
  induction rs using List.reverseRecOn with
  | nil => exact ⟨⟨rfl, rfl, rfl⟩, .absent fun _ => rfl⟩
  | append_singleton rs r ih =>
    rw [ClearanceSummary.over_concat, Nat.zero_add]
    exact ⟨ih.1.step _ r, ih.2.step r⟩

theorem forall_marginAt_eq_none_iff (rs : List RailResult) :
    (∀ j, marginAt rs j = none) ↔ ∀ r ∈ rs, r.margin = none := by
  have hnone (j : Nat) : marginAt rs j = none ↔ ∀ r, rs[j]? = some r → r.margin = none :=
    Option.bind_eq_none_iff
  simp only [hnone, List.mem_iff_getElem?]
  exact ⟨fun h r ⟨j, hj⟩ => h j r hj, fun h j r hj => h r ⟨j, hj⟩⟩

theorem WorstOf.isSome_eq {rs : List RailResult} {w : Option Int} {k : Option Nat} (h : WorstOf rs w k) :
    w.isSome = k.isSome := by
  cases h <;> rfl

theorem WorstOf.eq_none_iff {rs : List RailResult} {w : Option Int} {k : Option Nat} (h : WorstOf rs w k) :
    w = none ↔ ∀ r ∈ rs, r.margin = none := by
  rw [← forall_marginAt_eq_none_iff]
  cases h with
  | absent h => simpa using h
  | least h _ => exact ⟨(nomatch ·), fun hn => absurd h (by simp [hn])⟩

/-- Settles O57: the summary by induction on the pass, its last sector last; the sector, the template and the zone by their
cases. -/
theorem summaryNamesTheWorstSector : Obligations.SummaryNamesTheWorstSector := by
  refine ⟨?summary, ?sector, ?template, ?parameters⟩
  case summary =>
    rintro rs m rfl
    obtain ⟨⟨he, hn, hb⟩, hworst⟩ := ClearanceSummary.over_start rs
    refine ⟨he, hn, hb, hworst.eq_none_iff, hworst.isSome_eq, fun w k hw hk => ?_⟩
    rw [hw, hk] at hworst
    obtain - | ⟨hmargin, hleast⟩ := hworst
    exact ⟨hmargin, hleast⟩
  case sector =>
    rintro radius warn cell tolerance margin hm
    rw [← RailCell.clearance_eq] at hm
    refine ⟨rfl, rfl, fun hr hc => by simp [assessSector, hr, hc], fun hr hc => ?_⟩
    rw [assessSector_of_seen hr hc, show _ - toleratedRadius radius tolerance = margin from hm.symm]
    exact ⟨fun hneg => by rw [marginClass_of_neg hneg], fun h0 hlt => by rw [marginClass_of_lt h0 hlt],
      fun h0 hle => by rw [marginClass_of_le h0 hle]⟩
  case template =>
    intro p radius
    refine ⟨?_, ?_, ?_⟩
    · rintro (rfl | hbeyond)
      · rfl
      · exact PlanTables.templateFor_of_beyond hbeyond
    · intro smaller band larger hb hc hs
      have h := PlanTables.templateFor_of_band hb hc hs
      exact ⟨fun hl => (h hl.ne).trans (if_pos hl), fun hr => (h hr.ne').trans (if_neg hr.asymm)⟩
    · intro k e sector he
      simp [PlanTables.templateRadius, List.getD, he]
  case parameters =>
    intro p
    refine ⟨rfl, ?_, fun edge => ⟨p.zoneAt_eq_none_iff edge, fun k => PlanTables.covers_of_zoneAt⟩⟩
    intro k z hz
    simp [PlanTables.parametersFor, hz]

end Sys2Proof.Machine
end

section
/-! PROOFS. A commit's end, the handover order after it and the evaluation it can begin; and O35. -/
namespace Sys2Proof.Machine

/-! ### What a bank's tables and tags are read from -/

theorem State.holdsTag_eq_of_bank {s t : State} {g : Tag}
    (hfree : (t.bank g.bank).phase = .free ↔ (s.bank g.bank).phase = .free)
    (ho : (t.bank g.bank).openingNumber = (s.bank g.bank).openingNumber) : t.holdsTag g = s.holdsTag g := by
  simp [State.holdsTag, hfree, ho]

theorem State.holdsTag_ne_free {s : State} {g : Tag} (h : s.holdsTag g = true) : (s.bank g.bank).phase ≠ .free := by
  rw [State.holdsTag, Bool.and_eq_true] at h
  exact of_decide_eq_true h.1

theorem State.boundTables_eq {s t : State} {i : BankId} (hb : (t.bank i).planReference = (s.bank i).planReference)
    (hl : t.loader = s.loader) : t.boundTables i = s.boundTables i := by
  have hset := State.planSet_of_loader hl
  simp only [State.boundTables, hb, hset]

theorem State.boundParameters_eq {s t : State} {i : BankId} (hb : (t.bank i).planReference = (s.bank i).planReference)
    (hz : (t.bank i).zone = (s.bank i).zone) (hl : t.loader = s.loader) : t.boundParameters i = s.boundParameters i := by
  simp only [State.boundParameters, State.boundTables_eq hb hl, hz]

/-! ### An evaluation that begins with a revolution committed (R72, R73, R79) -/

/-- The state after a bank has become EVALUATING and the Clearance Evaluator has taken it. -/
def State.evaluationBegun (s : State) (i : BankId) : State :=
  { s.setBank i (s.evaluatingBank i (s.bank i)) with evaluator := s.evaluatorTaking i }

theorem State.evaluationBegun_bank (s : State) (i j : BankId) :
    (s.evaluationBegun i).bank j = if j = i then s.evaluatingBank i (s.bank i) else s.bank j := by
  have hbank : (s.evaluationBegun i).bank j = (s.setBank i (s.evaluatingBank i (s.bank i))).bank j := by cases j <;> rfl
  rw [hbank, State.bank_setBank_if]

theorem State.evaluatorTaking_eq {s t : State} {i : BankId} (hb : (t.bank i).planReference = (s.bank i).planReference)
    (hz : (t.bank i).zone = (s.bank i).zone) (hl : t.loader = s.loader) : t.evaluatorTaking i = s.evaluatorTaking i := by
  simp only [State.evaluatorTaking, State.boundTables_eq hb hl, State.boundParameters_eq hb hz hl]

theorem State.becomeEvaluating_of_committed {s : State} {i : BankId} (hc : (s.bank i).committed ≠ 0) :
    s.becomeEvaluating i = s.evaluationBegun i := by
  have htaken : (s.setBank i (s.evaluatingBank i (s.bank i))).evaluatorTaking i = s.evaluatorTaking i :=
    State.evaluatorTaking_eq (by rw [State.bank_setBank]; rfl) (by rw [State.bank_setBank]; rfl) (by simp)
  have hbegun : s.becomeEvaluating i = (s.setBank i (s.evaluatingBank i (s.bank i))).beginEvaluation i := if_neg hc
  rw [hbegun, State.evaluationBegun, ← htaken]
  rfl

theorem State.evaluationRound_of_not_ready {s : State}
    (h : ∀ i, s.accumulator.evaluationOrder.head? = some i → (s.bank i).phase = .closing → (s.bank i).inHand ≠ 0) :
    s.evaluationRound = s := by
  unfold State.evaluationRound
  split
  next => rfl
  next i _ ho => exact if_neg fun ⟨hp, hn⟩ => h i (by rw [ho]; rfl) hp hn

theorem State.evaluationRound_of_ready {s : State} {i : BankId} (ho : s.accumulator.evaluationOrder.head? = some i)
    (hp : (s.bank i).phase = .closing) (hn : (s.bank i).inHand = 0) : s.evaluationRound = s.becomeEvaluating i := by
  obtain ⟨rest, hrest⟩ := List.head?_eq_some_iff.1 ho
  simp [State.evaluationRound, hrest, hp, hn]

/-- R72: the bank at the head, once EVALUATING, stays there, and no other follows it. -/
theorem State.advanceEvaluation_of_ready {s : State} {i : BankId} (ho : s.accumulator.evaluationOrder.head? = some i)
    (hp : (s.bank i).phase = .closing) (hn : (s.bank i).inHand = 0) (hc : (s.bank i).committed ≠ 0) :
    s.advanceEvaluation = s.evaluationBegun i := by
  have hround : (s.evaluationBegun i).evaluationRound = s.evaluationBegun i := by
    refine State.evaluationRound_of_not_ready fun j hj hclosing => ?_
    have horder : (s.evaluationBegun i).accumulator.evaluationOrder = s.accumulator.evaluationOrder := by
      simp [State.evaluationBegun]
    rw [horder, ho] at hj
    cases hj
    rw [State.evaluationBegun_bank, if_pos rfl] at hclosing
    cases hclosing
  rw [State.advanceEvaluation, State.evaluationRound_of_ready ho hp hn, State.becomeEvaluating_of_committed hc, hround,
    hround]

/-! ### The handover order (R63, R67) -/

/-- The state with some buffers emptied, a handover order and a commit in progress. -/
def State.handsOver (s : State) (freed : List BufferId) (order : List Handed) (commit : Option Commit) : State :=
  { s with
    sweep := { s.sweep with
      handover := order
      bufferA := if .a ∈ freed then .reset else s.sweep.bufferA
      bufferB := if .b ∈ freed then .reset else s.sweep.bufferB }
    accumulator := { s.accumulator with commit := commit } }

@[simp] theorem State.handsOver_bank (s : State) (freed : List BufferId) (order : List Handed) (c : Option Commit)
    (i : BankId) : (s.handsOver freed order c).bank i = s.bank i := by
  cases i <;> rfl

theorem State.handsOver_buffer (s : State) (freed : List BufferId) (order : List Handed) (c : Option Commit)
    (j : BufferId) : (s.handsOver freed order c).buffer j = if j ∈ freed then .reset else s.buffer j := by
  cases j <;> rfl

theorem State.handsOver_handsOver (s : State) (xs ys : List BufferId) (o1 o2 : List Handed) (c1 c2 : Option Commit) :
    (s.handsOver xs o1 c1).handsOver ys o2 c2 = s.handsOver (xs ++ ys) o2 c2 := by
  simp only [State.handsOver, List.mem_append, State.mk.injEq, SweepPort.mk.injEq, and_true, true_and]
  constructor
  · by_cases hx : BufferId.a ∈ xs <;> by_cases hy : BufferId.a ∈ ys <;> simp [hx, hy]
  · by_cases hx : BufferId.b ∈ xs <;> by_cases hy : BufferId.b ∈ ys <;> simp [hx, hy]

theorem State.handsOver_self (s : State) : s.handsOver [] s.sweep.handover s.accumulator.commit = s := by
  simp [State.handsOver]

theorem State.dropInHand_of_not_holds {s : State} {g : Tag} (h : s.holdsTag g = false) : s.dropInHand g = s := by
  simp [State.dropInHand, h]

/-- R63: a revolution of no bank's station leaves its buffer, and nothing is counted. -/
theorem State.dropHanded_of_not_holds {s : State} {h : Handed} (hg : s.holdsTag h.tag = false) :
    s.dropHanded h = s.handsOver [h.buffer] (s.sweep.handover.drop 1) s.accumulator.commit := by
  have hsame (t : State) (ht : t.accumulator = s.accumulator) : t.holdsTag h.tag = false :=
    (State.holdsTag_of_bank (State.bank_of_accumulator ht) _).trans hg
  unfold State.dropHanded
  dsimp only
  rw [if_neg (by simp [hsame]), State.dropInHand_of_not_holds (hsame _ (by simp))]
  cases hb : h.buffer <;> simp [State.handsOver, State.freeBuffer, State.setBuffer]

theorem State.startCommit_eq (s : State) (h : Handed) :
    s.startCommit h = s.handsOver [] s.sweep.handover (some (s.commitOf h)) := by
  have hheld : (s.cant.history.isEmpty || decide (s.cant.failures ≠ 0)) =
      decide (s.cant.history = [] ∨ s.cant.failures ≠ 0) := by
    cases s.cant.history <;> simp
  rw [State.commitOf, ← hheld]
  rfl

theorem State.judgeHandedOnce_of_none {s : State} (h : s.sweep.handover = []) : s.judgeHandedOnce = s := by
  unfold State.judgeHandedOnce
  split
  next hh => simp [h] at hh
  next => rfl

theorem State.judgeHandedOnce_of_busy {s : State} {k : Commit} (h : s.accumulator.commit = some k) :
    s.judgeHandedOnce = s := by
  simp [State.judgeHandedOnce, h]

/-- R63: the state can commit the revolution of a handed buffer. -/
structure State.Committable (s : State) (h : Handed) : Prop where
  tracks : s.chainage.tracker = .tracking
  holds : s.holdsTag h.tag = true
  gathers : (s.bank h.tag.bank).phase = .opened ∨ (s.bank h.tag.bank).phase = .closing

theorem State.judgeHandedOnce_of_committable {s : State} {h : Handed} {rest : List Handed}
    (hc : s.accumulator.commit = none) (ho : s.sweep.handover = h :: rest) (hs : s.Committable h) :
    s.judgeHandedOnce = s.handsOver [] s.sweep.handover (some (s.commitOf h)) := by
  have hphase : (s.bank h.tag.bank).phase ≠ .evaluating := by
    rcases hs.gathers with hp | hp <;> rw [hp] <;> decide
  simp only [State.judgeHandedOnce, hc, ho]
  rw [if_pos ⟨hs.holds, hphase, hs.tracks⟩, State.startCommit_eq, ho]

theorem State.judgeHandedOnce_of_gone {s : State} {h : Handed} {rest : List Handed}
    (hc : s.accumulator.commit = none) (ho : s.sweep.handover = h :: rest) (hg : s.holdsTag h.tag = false) :
    s.judgeHandedOnce = s.handsOver [h.buffer] rest none := by
  simp only [State.judgeHandedOnce, hc, ho]
  rw [if_neg (by simp [hg]), State.dropHanded_of_not_holds hg, ho, hc]
  rfl

/-- R63: the next buffer that can be committed, judged with no commit in progress, and any after it. -/
theorem State.judgeHandedOnce_of_next {s : State} {rest : List Handed} (hc : s.accumulator.commit = none)
    (ho : s.sweep.handover = rest) (hrest : rest = [] ∨ ∃ next, rest = [next] ∧ s.Committable next) :
    s.judgeHandedOnce = s.handsOver [] rest (rest.head?.map s.commitOf) := by
  rcases hrest with rfl | ⟨next, rfl, hnext⟩
  · rw [State.judgeHandedOnce_of_none ho]
    calc s = s.handsOver [] s.sweep.handover s.accumulator.commit := s.handsOver_self.symm
      _ = s.handsOver [] [] none := by rw [ho, hc]
  · rw [State.judgeHandedOnce_of_committable hc ho hnext, ho]
    rfl

theorem State.judgeHandedOnce_of_judged {s : State} {rest : List Handed} (freed : List BufferId) :
    (s.handsOver freed rest (rest.head?.map s.commitOf)).judgeHandedOnce =
      s.handsOver freed rest (rest.head?.map s.commitOf) := by
  cases rest with
  | nil => exact State.judgeHandedOnce_of_none rfl
  | cons next more => exact State.judgeHandedOnce_of_busy rfl

/-- R63: at most one revolution that no bank holds is dropped before the next commit starts. -/
theorem State.judgeHanded_eq {s : State} {gone rest : List Handed} (hc : s.accumulator.commit = none)
    (ho : s.sweep.handover = gone ++ rest) (hlen : gone.length ≤ 1) (hgone : ∀ x ∈ gone, s.holdsTag x.tag = false)
    (hrest : rest = [] ∨ ∃ next, rest = [next] ∧ s.Committable next) :
    s.judgeHanded = s.handsOver (gone.map Handed.buffer) rest (rest.head?.map s.commitOf) := by
  match gone with
  | [] =>
    rw [State.judgeHanded, State.judgeHandedOnce_of_next hc ho hrest]
    exact State.judgeHandedOnce_of_judged []
  | [x] =>
    rw [State.judgeHanded, State.judgeHandedOnce_of_gone hc ho (hgone x (by simp))]
    have hnext : rest = [] ∨ ∃ next, rest = [next] ∧ (s.handsOver [x.buffer] rest none).Committable next := by
      refine hrest.imp_right fun ⟨next, hr, hn⟩ => ⟨next, hr, ⟨hn.tracks, ?_, by simpa using hn.gathers⟩⟩
      exact (State.holdsTag_of_bank (s.handsOver_bank _ _ _) _).trans hn.holds
    have hcommit (y : Handed) : (s.handsOver [x.buffer] rest none).commitOf y = s.commitOf y := by
      have hp : (s.handsOver [x.buffer] rest none).boundParameters y.tag.bank = s.boundParameters y.tag.bank :=
        State.boundParameters_eq (by simp) (by simp) rfl
      simp only [State.commitOf, hp]
      rfl
    have hjudged := State.judgeHandedOnce_of_next (s := s.handsOver [x.buffer] rest none) rfl rfl hnext
    rw [State.handsOver_handsOver, funext hcommit] at hjudged
    exact hjudged
  | x :: y :: more => exact absurd hlen (by simp)

/-! ### The end of a commit (R64 to R67) -/

/-- The target bank as its revolution leaves the buffer: folded and counted, one fewer in hand. -/
def State.committedBank (s : State) (k : Commit) : Bank :=
  { (s.bank k.tag.bank).commitRevolution s.calibration k (s.buffer k.buffer).samples with
    inHand := (s.bank k.tag.bank).inHand - 1 }

/-- R64 to R67: what a commit changes of its bank. -/
theorem State.committedBank_eq (s : State) (k : Commit) :
    s.committedBank k =
      { (s.bank k.tag.bank).foldSamples s.calibration k.floor k.cantOffset (s.buffer k.buffer).samples with
        committed := min 65535 ((s.bank k.tag.bank).committed + 1)
        inHand := (s.bank k.tag.bank).inHand - 1
        flags := { (s.bank k.tag.bank).flags with
          window := (s.bank k.tag.bank).flags.window || k.window
          cantHeld := (s.bank k.tag.bank).flags.cantHeld || k.cantHeld } } := by
  unfold State.committedBank Bank.commitRevolution
  rw [Bank.foldSamples_eq]
  rfl

theorem State.committedBank_frame (s : State) (k : Commit) :
    (s.committedBank k).phase = (s.bank k.tag.bank).phase ∧
    (s.committedBank k).openingNumber = (s.bank k.tag.bank).openingNumber ∧
    (s.committedBank k).planReference = (s.bank k.tag.bank).planReference ∧
    (s.committedBank k).zone = (s.bank k.tag.bank).zone := by
  rw [State.committedBank_eq, Bank.foldSamples_eq]
  exact ⟨rfl, rfl, rfl, rfl⟩

/-- R66: a commit leaves its bank with a revolution committed. -/
theorem State.committedBank_committed (s : State) (k : Commit) : (s.committedBank k).committed ≠ 0 := by
  rw [State.committedBank_eq]
  show min 65535 (_ + 1) ≠ 0
  omega

theorem State.committedBank_inHand (s : State) (k : Commit) :
    (s.committedBank k).inHand = (s.bank k.tag.bank).inHand - 1 := rfl

theorem State.endCommit_eq {s : State} {k : Commit} (h : s.holdsTag k.tag = true) :
    s.endCommit k = (s.setBank k.tag.bank (s.committedBank k)).handsOver [k.buffer] (s.sweep.handover.drop 1) none := by
  have hheld (b : Bank) (hb : b = (s.bank k.tag.bank).commitRevolution s.calibration k (s.buffer k.buffer).samples) :
      (s.setBank k.tag.bank b).holdsTag k.tag = true := by
    obtain ⟨hphase, hopening, -⟩ := s.committedBank_frame k
    refine (State.holdsTag_eq_of_bank ?_ ?_).trans h <;> rw [State.bank_setBank, hb]
    · exact hphase ▸ Iff.rfl
    · exact hopening
  unfold State.endCommit
  dsimp only
  rw [if_pos h, State.dropInHand, if_pos (hheld _ rfl), State.bank_setBank]
  have htwice (b c : Bank) : (s.setBank k.tag.bank b).setBank k.tag.bank c = s.setBank k.tag.bank c := by
    cases k.tag.bank <;> rfl
  have hin : ((s.bank k.tag.bank).commitRevolution s.calibration k (s.buffer k.buffer).samples).inHand =
      (s.bank k.tag.bank).inHand := by
    unfold Bank.commitRevolution
    rw [Bank.foldSamples_eq]
  rw [htwice, hin]
  cases hb : k.buffer <;> simp [State.handsOver, State.freeBuffer, State.setBuffer, State.committedBank, hb]

/-- The state once a commit has ended and the handover order after it has been judged. -/
def State.commitEnded (s : State) (k : Commit) (gone rest : List Handed) : State :=
  (s.setBank k.tag.bank (s.committedBank k)).handsOver (k.buffer :: gone.map Handed.buffer) rest
    (rest.head?.map s.commitOf)

theorem State.commitEnded_bank (s : State) (k : Commit) (gone rest : List Handed) (j : BankId) :
    (s.commitEnded k gone rest).bank j = if j = k.tag.bank then s.committedBank k else s.bank j := by
  rw [State.commitEnded, State.handsOver_bank, State.bank_setBank_if]

theorem State.commitEnded_buffer (s : State) (k : Commit) (gone rest : List Handed) (j : BufferId) :
    (s.commitEnded k gone rest).buffer j =
      if j = k.buffer ∨ j ∈ gone.map Handed.buffer then { phase := .free, samples := [] } else s.buffer j := by
  rw [State.commitEnded, State.handsOver_buffer, State.buffer_of_sweep (s := s) (by simp)]
  simp [RevolutionBuffer.reset]

theorem State.commitEnded_eq (s : State) (k : Commit) (gone rest : List Handed) :
    s.commitEnded k gone rest = { s with
      sweep := { s.sweep with
        handover := rest
        bufferA := (s.commitEnded k gone rest).sweep.bufferA, bufferB := (s.commitEnded k gone rest).sweep.bufferB }
      accumulator := { s.accumulator with
        commit := rest.head?.map s.commitOf
        bank0 := (s.commitEnded k gone rest).accumulator.bank0
        bank1 := (s.commitEnded k gone rest).accumulator.bank1 } } := by
  unfold State.commitEnded
  cases k.tag.bank <;> rfl

/-- What a commit changes of its bank is none of what tags and commits read. -/
theorem State.setBank_committedBank_reads (s : State) (k : Commit) (j : BankId) :
    ((s.setBank k.tag.bank (s.committedBank k)).bank j).phase = (s.bank j).phase ∧
    ((s.setBank k.tag.bank (s.committedBank k)).bank j).openingNumber = (s.bank j).openingNumber ∧
    ((s.setBank k.tag.bank (s.committedBank k)).bank j).planReference = (s.bank j).planReference ∧
    ((s.setBank k.tag.bank (s.committedBank k)).bank j).zone = (s.bank j).zone := by
  rw [State.bank_setBank_if]
  split
  next hj => exact hj ▸ s.committedBank_frame k
  next => exact ⟨rfl, rfl, rfl, rfl⟩

theorem State.endCommit_judgeHanded {s : State} {k : Commit} {h : Handed} {gone rest : List Handed}
    (hk : s.holdsTag k.tag = true) (ho : s.sweep.handover = h :: (gone ++ rest)) (hlen : gone.length ≤ 1)
    (hgone : ∀ x ∈ gone, s.holdsTag x.tag = false)
    (hrest : rest = [] ∨ ∃ next, rest = [next] ∧ s.Committable next) :
    (s.endCommit k).judgeHanded = s.commitEnded k gone rest := by
  have hreads := s.setBank_committedBank_reads k
  have hcommit : (s.endCommit k).commitOf = s.commitOf := by
    rw [State.endCommit_eq hk]
    funext y
    obtain ⟨-, -, hplan, hzone⟩ := hreads y.tag.bank
    simp only [State.commitOf]
    rw [State.boundParameters_eq (s := s) (by rw [State.handsOver_bank, hplan]) (by rw [State.handsOver_bank, hzone])
      (by simp [State.handsOver])]
    simp [State.handsOver]
  have hheld (g : Tag) : (s.endCommit k).holdsTag g = s.holdsTag g := by
    obtain ⟨hphase, hopening, -, -⟩ := hreads g.bank
    rw [State.endCommit_eq hk]
    exact State.holdsTag_eq_of_bank (by rw [State.handsOver_bank, hphase]) (by rw [State.handsOver_bank, hopening])
  have hnext : rest = [] ∨ ∃ next, rest = [next] ∧ (s.endCommit k).Committable next := by
    refine hrest.imp_right fun ⟨next, hr, hn⟩ => ⟨next, hr, ⟨?_, (hheld _).trans hn.holds, ?_⟩⟩
    · rw [State.endCommit_eq hk]
      simpa [State.handsOver] using hn.tracks
    · rw [State.endCommit_eq hk, State.handsOver_bank, (hreads next.tag.bank).1]
      exact hn.gathers
  rw [State.judgeHanded_eq (by rw [State.endCommit_eq hk]; rfl) (by rw [State.endCommit_eq hk, ho]; rfl) hlen
    (fun x hx => (hheld _).trans (hgone x hx)) hnext, hcommit, State.endCommit_eq hk, State.handsOver_handsOver]
  rfl

/-! ### The end of the event -/

/-- R169: a drain does not end while a bank is not FREE. -/
theorem State.finishDraining_of_bank {s : State} {i : BankId} (h : (s.bank i).phase ≠ .free) : s.finishDraining = s := by
  refine if_neg fun ⟨_, _, h0, h1, _⟩ => h ?_
  cases i
  · exact h0
  · exact h1

/-- An event that leaves the port as it is, calls for no position write and leaves a bank that is not FREE settles at
once. -/
theorem State.Rested.settle_eq_of_bank {s t : State} (h : s.Rested) {i : BankId} (hi : (t.bank i).phase ≠ .free)
    (hdue : t.positionDue = s.positionDue) (hport : t.port = s.port) : t.settle = t := by
  have hflush : t.flushPosition = t := by
    simp only [State.flushPosition, hdue.trans h.settled, Bool.false_eq_true, if_false]
  rw [State.settle, State.finishDraining_of_bank hi, hflush]
  exact State.arbitrate_eq t (hport ▸ h.port.openedIsBusy)

/-! ### The evaluation that a commit's end begins -/

/-- R72: the commit that ends is of the last revolution in hand of the CLOSING bank at the head. -/
def State.commitIsLast (s : State) (k : Commit) : Prop :=
  (s.bank k.tag.bank).phase = .closing ∧ (s.bank k.tag.bank).inHand = 1 ∧
    s.accumulator.evaluationOrder.head? = some k.tag.bank

theorem State.commitEnded_evaluationOrder (s : State) (k : Commit) (gone rest : List Handed) :
    (s.commitEnded k gone rest).accumulator.evaluationOrder = s.accumulator.evaluationOrder := by
  rw [State.commitEnded_eq]

theorem State.commitEnded_bank_self (s : State) (k : Commit) (gone rest : List Handed) :
    (s.commitEnded k gone rest).bank k.tag.bank = s.committedBank k := by
  rw [State.commitEnded_bank, if_pos rfl]

theorem State.commitEnded_advance_of_last {s : State} {k : Commit} (hlast : s.commitIsLast k) (gone rest : List Handed) :
    (s.commitEnded k gone rest).advanceEvaluation = (s.commitEnded k gone rest).evaluationBegun k.tag.bank := by
  obtain ⟨hp, hn, hhead⟩ := hlast
  obtain ⟨hphase, -⟩ := s.committedBank_frame k
  apply State.advanceEvaluation_of_ready
  · rw [State.commitEnded_evaluationOrder, hhead]
  · rw [State.commitEnded_bank_self, hphase, hp]
  · rw [State.commitEnded_bank_self, State.committedBank_inHand, hn]
  · rw [State.commitEnded_bank_self]
    exact s.committedBank_committed k

theorem State.commitEnded_advance_of_not_last {s : State} {k : Commit} (hb : s.EvaluationsBegun)
    (hlast : ¬ s.commitIsLast k) (gone rest : List Handed) :
    (s.commitEnded k gone rest).advanceEvaluation = s.commitEnded k gone rest := by
  refine State.advanceEvaluation_eq _ fun j hj hp => ?_
  rw [State.commitEnded_evaluationOrder] at hj
  rw [State.commitEnded_bank] at hp ⊢
  split at hp
  next heq =>
    subst heq
    obtain ⟨hphase, -⟩ := s.committedBank_frame k
    rw [hphase] at hp
    have hsome := hb _ hj hp
    have hnot : (s.bank k.tag.bank).inHand ≠ 1 := fun hn => hlast ⟨hp, hn, hj⟩
    rw [if_pos rfl, State.committedBank_inHand]
    omega
  next hne =>
    rw [if_neg hne]
    exact hb j hj hp

theorem State.commitEnded_evaluationBegun_eq (s : State) (k : Commit) (gone rest : List Handed) :
    (s.commitEnded k gone rest).evaluationBegun k.tag.bank = { s with
      sweep := (s.commitEnded k gone rest).sweep
      accumulator := { s.accumulator with
        commit := rest.head?.map s.commitOf
        bank0 := ((s.commitEnded k gone rest).evaluationBegun k.tag.bank).accumulator.bank0
        bank1 := ((s.commitEnded k gone rest).evaluationBegun k.tag.bank).accumulator.bank1 }
      evaluator := s.evaluatorTaking k.tag.bank } := by
  obtain ⟨-, -, hplan, hzone⟩ := s.committedBank_frame k
  have hloader : (s.commitEnded k gone rest).loader = s.loader := by rw [State.commitEnded_eq]
  have htaking : (s.commitEnded k gone rest).evaluatorTaking k.tag.bank = s.evaluatorTaking k.tag.bank :=
    State.evaluatorTaking_eq (by rw [State.commitEnded_bank_self, hplan]) (by rw [State.commitEnded_bank_self, hzone]) hloader
  rw [State.evaluationBegun, htaking]
  cases hk : k.tag.bank <;> simp [State.commitEnded, State.setBank, State.handsOver, hk]

/-- R82, R73: the bank that becomes EVALUATING is judged by the set it is bound to. -/
theorem State.commitEnded_evaluationBegun_bank (s : State) (k : Commit) (gone rest : List Handed) (j : BankId) :
    ((s.commitEnded k gone rest).evaluationBegun k.tag.bank).bank j =
      if j = k.tag.bank then s.evaluatingBank k.tag.bank (s.committedBank k) else s.bank j := by
  obtain ⟨-, -, hplan, -⟩ := s.committedBank_frame k
  have htables : (s.commitEnded k gone rest).boundTables k.tag.bank = s.boundTables k.tag.bank :=
    State.boundTables_eq (by rw [State.commitEnded_bank_self, hplan]) (by rw [State.commitEnded_eq])
  rw [State.evaluationBegun_bank, State.commitEnded_bank_self, State.commitEnded_bank]
  split
  next => simp only [State.evaluatingBank, htables]
  next => rfl

/-- Settles O35: the commit's end, with the buffers judged after it, is `State.commitEnded`; R72 begins an evaluation exactly
where the revolution was the last, and the end of the event brings nothing more. -/
theorem commitEndFoldsTheRevolution : Obligations.CommitEndFoldsTheRevolution := by
  intro s k h gone rest b hrested hbegun _ hk ho _ hheld hlen hgone hrest hb
  have hnext : rest = [] ∨ ∃ next, rest = [next] ∧ s.Committable next :=
    hrest.imp_right fun ⟨next, hr, htracks, hholds, hgathers⟩ => ⟨next, hr, htracks, hholds, hgathers⟩
  have hjudged := State.endCommit_judgeHanded hheld ho hlen hgone hnext
  have hexec : exec .commitEnd s = .next (s.commitEnded k gone rest).advanceEvaluation.settle := by
    rw [← hjudged]
    simp only [exec, execCommitEnd, hk]
  obtain rfl : b = s.committedBank k := hb.trans (s.committedBank_eq k).symm
  have hbuffer := s.commitEnded_buffer k gone rest
  have hframe := s.commitEnded_eq k gone rest
  by_cases hlast : s.commitIsLast k
  case pos =>
    have hframe' := s.commitEnded_evaluationBegun_eq k gone rest
    have hbank := s.commitEnded_evaluationBegun_bank k gone rest
    rw [State.commitEnded_advance_of_last hlast, hrested.settle_eq_of_bank (i := k.tag.bank)
      (by rw [hbank, if_pos rfl]; exact BankPhase.noConfusion) (by rw [hframe']) (by rw [hframe'])] at hexec
    refine ⟨_, hexec, ?_, fun j => ?_, ?_, ?_⟩
    · rw [hframe', hframe]
    · rw [← hbuffer j]
      exact State.buffer_of_sweep (by rw [hframe']) j
    · rw [hbank, if_neg (BankId.other_ne _)]
    · rw [if_pos (show _ ∧ _ ∧ _ from hlast), hbank, if_pos rfl, hframe']
      exact ⟨rfl, rfl⟩
  case neg =>
    obtain ⟨hphase, -⟩ := s.committedBank_frame k
    rw [State.commitEnded_advance_of_not_last hbegun hlast, hrested.settle_eq_of_bank (i := k.tag.bank)
      (by rw [State.commitEnded_bank_self, hphase]; exact State.holdsTag_ne_free hheld) (by rw [hframe])
      (by rw [hframe])] at hexec
    refine ⟨_, hexec, ?_, hbuffer, ?_, ?_⟩
    · rw [hframe]
    · rw [State.commitEnded_bank, if_neg (BankId.other_ne _)]
    · rw [if_neg (show ¬ (_ ∧ _ ∧ _) from hlast), State.commitEnded_bank_self, hframe]
      exact ⟨rfl, rfl⟩

end Sys2Proof.Machine
end

section
/-! PROOFS. What an offer writes and what the end of an event makes of it, and the release of a station (R104 to R109). -/
namespace Sys2Proof.Machine

/-! ### What an offer writes (R132, R133, R136) -/

/-- All that offers can change of a state before the event ends: the Sheet Writer, SHEET_STARVED, the Sheet Writer's bursts,
and whether a position write is called for. -/
structure Writing where
  sheets : SheetWriter
  starved : Option Word
  queue : List Burst
  due : Bool

/-- The state with what offers have written. -/
def State.withWriting (s : State) (w : Writing) : State :=
  { s with
    sheets := w.sheets
    notices := { s.notices with starved := w.starved }
    port := { s.port with writerQueue := w.queue }
    positionDue := w.due }

theorem State.writesMore_withWriting (s : State) (w : Writing) : s.WritesMore (s.withWriting w) := rfl

theorem State.WritesMore.exists_withWriting {s t : State} (h : s.WritesMore t) : ∃ w, t = s.withWriting w :=
  ⟨⟨t.sheets, t.notices.starved, t.port.writerQueue, t.positionDue⟩, h⟩

@[simp] theorem State.withWriting_bank (s : State) (w : Writing) (i : BankId) : (s.withWriting w).bank i = s.bank i :=
  State.bank_of_accumulator rfl i

@[simp] theorem State.withWriting_planSet (s : State) (w : Writing) (j : SetId) :
    (s.withWriting w).planSet j = s.planSet j :=
  State.planSet_of_loader rfl j

theorem State.withWriting_raiseAlert (s : State) (w : Writing) (n : Int) (m : ClearanceSummary) (d : Nat × Option Int) :
    (s.withWriting w).raiseAlert n m d = (s.raiseAlert n m d).withWriting w := by
  unfold State.raiseAlert
  split
  next => rfl
  next => rfl

theorem State.withWriting_bankReleased (s : State) (w : Writing) (i : BankId) :
    (s.withWriting w).bankReleased i = (s.bankReleased i).withWriting w := by
  have hvacated : (s.withWriting w).bankVacated i = (s.bankVacated i).withWriting w := by cases i <;> rfl
  unfold State.bankReleased
  rw [State.withWriting_bank, hvacated]
  cases (s.bank i).planReference with
  | none => rfl
  | some r =>
    simp only [Option.map_some, Option.getD_some]
    cases r.set <;> rfl

/-- The record `r` has been offered in `s`, and `w` is what that wrote. -/
structure State.Offered (s : State) (r : Record) (w : Writing) : Prop where
  tally : w.sheets.tally = s.sheets.tally.offer r
  endWaiting : w.sheets.endWaiting = s.sheets.endWaiting
  due : w.due = (s.positionDue || (r.kind.isStation && decide (s.sheets.queue.length < 6)))

theorem State.exists_offered (s : State) (r : Record) : ∃ w, s.offer r = s.withWriting w ∧ s.Offered r w := by
  obtain ⟨w, hw⟩ := (s.offer_writesMore r).exists_withWriting
  refine ⟨w, hw, ⟨?_, ?_, ?_⟩⟩
  · rw [← s.offer_tally r, hw]; rfl
  · have hwaits : (s.offer r).sheets.endWaiting = s.sheets.endWaiting := by simp
    rw [← hwaits, hw]; rfl
  · rw [← s.offer_positionDue r, hw]; rfl

/-! ### The end of an event after offers (R172, R176) -/

/-- R176: with no burst of the Baseline Comparator's to grant, its queue stands. -/
theorem State.arbitrate_port_eq {s : State}
    (h : s.port.access = .opened → s.port.grant = none → s.port.comparatorQueue = []) :
    s.arbitrate = { s with port := { s.port with
      writerQueue := s.arbitrate.port.writerQueue, controlQueue := s.arbitrate.port.controlQueue
      loaderQueue := s.arbitrate.port.loaderQueue, grant := s.arbitrate.port.grant } } := by
  unfold State.arbitrate
  split
  next ha hg =>
    split
    next hq => exact absurd (hq.symm.trans (h ha hg)) (by simp)
    next =>
      split
      next => rfl
      next =>
        split
        next => rfl
        next =>
          split
          next => rfl
          next => rfl
  next => rfl

theorem State.arbitrate_loaderQueue {s : State}
    (h : s.port.access = .opened → s.port.grant = none → s.port.loaderQueue = []) :
    s.arbitrate.port.loaderQueue = s.port.loaderQueue := by
  unfold State.arbitrate
  split
  next ha hg =>
    split
    next => rfl
    next =>
      split
      next => rfl
      next =>
        split
        next => rfl
        next =>
          split
          next hq => exact absurd (hq.symm.trans (h ha hg)) (by simp)
          next => rfl
  next => rfl

theorem State.flushPosition_of_not_due {s : State} (h : s.positionDue = false) : s.flushPosition = s := by
  simp only [State.flushPosition, h, Bool.false_eq_true, if_false]

theorem State.flushPosition_eq (s : State) :
    s.flushPosition = { s with
      positionDue := false
      port := { s.port with controlQueue := s.flushPosition.port.controlQueue } } := by
  cases hd : s.positionDue with
  | false => rw [State.flushPosition_of_not_due hd, ← hd]
  | true =>
    unfold State.flushPosition
    rw [if_pos hd]
    split
    next => rfl
    next => rfl

/-- After offers alone the end of the event brings about the position write, where one is called for, and the grant, and
nothing else. -/
theorem State.WritesMore.flushed {u v : State} (hw : u.WritesMore v) (hopen : u.port.access = .opened)
    (hidle : u.port.grant = none → u.port.comparatorQueue = []) (hdue : u.positionDue = false) :
    State.SameButForWriting
      { u with port := { u.port with loaderQueue := v.flushPosition.arbitrate.port.loaderQueue } }
      v.flushPosition.arbitrate (v.positionDue = true) := by
  obtain ⟨w, rfl⟩ := hw.exists_withWriting
  generalize hv : u.withWriting w = v
  have hport : v.port = { u.port with writerQueue := w.queue } := hv ▸ rfl
  have hopen' : v.port.access = .opened := hv ▸ hopen
  have hcontrol : v.flushPosition.arbitrate.port.burstsOf .control =
      if v.positionDue = true then v.port.withPosition v.flushPosition.arbitrate.positionBurst
      else v.port.burstsOf .control := by
    rw [State.arbitrate_burstsOf, State.arbitrate_positionBurst]
    unfold State.flushPosition
    split
    next => rw [hopen']; rfl
    next => rfl
  refine ⟨?_, fun hd => ?_, fun hd => ?_⟩
  · have hflushed : v.flushPosition.port.access = .opened → v.flushPosition.port.grant = none →
        v.flushPosition.port.comparatorQueue = [] := by
      rw [State.flushPosition_eq, hport]
      exact fun _ => hidle
    have hgranted := State.arbitrate_port_eq hflushed
    generalize v.flushPosition.arbitrate = x at hgranted ⊢
    rw [hgranted, State.flushPosition_eq, ← hdue, ← hv]
    rfl
  · rw [hcontrol, if_pos hd, hport]; rfl
  · rw [hcontrol, if_neg hd, hport]; rfl

/-- The Memory Port is open outside FAULTED (R173). -/
theorem State.Rested.opened {s : State} (h : s.Rested) (hf : s.control.survey ≠ .faulted) : s.port.access = .opened := by
  cases ha : s.port.access with
  | opened => rfl
  | shut => exact absurd (h.port.shutIffFaulted.1 ha) hf

/-- The same where the event has placed no burst of another requester. -/
theorem State.Rested.flushed {s u v : State} (h : s.Rested) (hf : s.control.survey ≠ .faulted)
    (hport : u.port = s.port) (hdue : u.positionDue = s.positionDue) (hw : u.WritesMore v) :
    u.SameButForWriting v.flushPosition.arbitrate (v.positionDue = true) := by
  have hopen : u.port.access = .opened := hport ▸ h.opened hf
  have hidle : u.port.grant = none → u.port.queuesEmpty := hport ▸ h.port.openedIsBusy (h.opened hf)
  have hloader : v.flushPosition.arbitrate.port.loaderQueue = u.port.loaderQueue := by
    obtain ⟨w, rfl⟩ := hw.exists_withWriting
    rw [State.arbitrate_loaderQueue]
    · rw [State.flushPosition_eq]; rfl
    · rw [State.flushPosition_eq]
      intro _ hg
      obtain ⟨-, -, -, hl⟩ := hidle hg
      exact hl
  have hflushed := hw.flushed hopen (fun hg => (hidle hg).1) (hdue.trans h.settled)
  rw [hloader] at hflushed
  exact hflushed

theorem State.SameButForWriting.congr {s t : State} {p q : Prop} (h : s.SameButForWriting t p) (hpq : p ↔ q) :
    s.SameButForWriting t q :=
  propext hpq ▸ h

/-! ### What offers leave as it was -/

section
variable {u t : State} {p : Prop} (h : u.SameButForWriting t p)
include h

theorem State.SameButForWriting.accumulator : t.accumulator = u.accumulator := by rw [h.1]
theorem State.SameButForWriting.loader : t.loader = u.loader := by rw [h.1]
theorem State.SameButForWriting.comparator : t.comparator = u.comparator := by rw [h.1]
theorem State.SameButForWriting.alerts : t.notices.alerts = u.notices.alerts := by rw [h.1]
theorem State.SameButForWriting.displaced : t.notices.displaced = u.notices.displaced := by rw [h.1]
theorem State.SameButForWriting.setupFault : t.notices.setupFault = u.notices.setupFault := by rw [h.1]

theorem State.SameButForWriting.bank (i : BankId) : t.bank i = u.bank i :=
  State.bank_of_accumulator h.accumulator i

theorem State.SameButForWriting.planSet (j : SetId) : t.planSet j = u.planSet j :=
  State.planSet_of_loader h.loader j

theorem State.SameButForWriting.withRelease (s : State) (order : List BankId) :
    s.withRelease t order = s.withRelease u order := by
  simp only [State.withRelease, h.accumulator, h.loader, h.comparator, h.alerts, h.displaced]

end

/-! ### A station released, but for its record (R109) -/

/-- R106: the deform count and the maximum deviation of the station under comparison. -/
def State.releaseDeform (s : State) (i : BankId) : Nat × Option Int :=
  deformSummary 0 none (s.levelResults i)

/-- The state after any alert has been offered. -/
def State.alerted (s : State) (i : BankId) (h : RailHandover) : State :=
  s.raiseAlert (s.bank i).first h.summary (s.releaseDeform i)

/-- The state after the alert has been offered and the bank freed, the comparator IDLE. -/
def State.released (s : State) (i : BankId) (h : RailHandover) : State :=
  ((s.alerted i h).bankReleased i).comparatorIdle

theorem State.alerted_eq (s : State) (i : BankId) (h : RailHandover) :
    s.alerted i h = { s with notices := { s.notices with
      alerts := (s.alerted i h).notices.alerts, displaced := (s.alerted i h).notices.displaced } } := by
  unfold State.alerted State.raiseAlert
  split
  next => rfl
  next => rfl

theorem State.bankVacated_accumulator (s : State) (i : BankId) :
    (s.bankVacated i).accumulator = { s.accumulator with
      evaluationOrder := s.accumulator.evaluationOrder.erase i
      bank0 := (s.bankVacated i).accumulator.bank0, bank1 := (s.bankVacated i).accumulator.bank1 } := by
  cases i <;> rfl

theorem State.released_eq (s : State) (i : BankId) (h : RailHandover) :
    s.released i h = s.withRelease (s.released i h) (s.accumulator.evaluationOrder.erase i) := by
  unfold State.released State.comparatorIdle State.withRelease
  rw [State.bankReleased_eq, State.bankVacated_accumulator]
  simp only
  rw [State.alerted_eq]

theorem State.released_bank (s : State) (i : BankId) (h : RailHandover) (k : BankId) :
    (s.released i h).bank k = if k = i then (s.bank k).freed else s.bank k := by
  have hraised (l : BankId) : (s.alerted i h).bank l = s.bank l :=
    State.bank_of_accumulator (by rw [State.alerted_eq]) l
  calc (s.released i h).bank k
      = ((s.alerted i h).bankReleased i).bank k := State.bank_of_accumulator rfl k
    _ = _ := by rw [State.bankReleased_bank, hraised]

theorem State.released_planSet (s : State) (i : BankId) (h : RailHandover) :
    s.ReleasesOnce (s.released i h) i := by
  intro j
  have hloader : (s.alerted i h).loader = s.loader := by rw [State.alerted_eq]
  have hbank : (s.alerted i h).bank i = s.bank i :=
    State.bank_of_accumulator (by rw [State.alerted_eq]) i
  have hset := State.bankReleased_planSet (s.alerted i h) i j
  rw [hbank, State.planSet_of_loader hloader] at hset
  exact hset

theorem State.alerted_alerts (s : State) (i : BankId) (h : RailHandover) :
    ((s.alerted i h).notices.alerts, (s.alerted i h).notices.displaced) =
      if 0 < h.summary.encroach ∨ 0 < (s.releaseDeform i).1 then
        offerAlertTo s.notices.alerts s.notices.displaced
          { station := (s.bank i).first, kind := if 0 < h.summary.encroach then .encroach else .deform
            worstMargin := h.summary.worstMargin, worstSector := h.summary.worstSector
            deformCount := (s.releaseDeform i).1, maxDeviation := (s.releaseDeform i).2 }
      else (s.notices.alerts, s.notices.displaced) := by
  unfold State.alerted State.raiseAlert
  split
  next => rfl
  next => rfl

theorem State.released_notices (s : State) (i : BankId) (h : RailHandover) :
    (s.released i h).notices = (s.alerted i h).notices := by
  unfold State.released State.comparatorIdle
  rw [State.bankReleased_eq]

/-- R109: what a release brings is there in every state that has its comparator and its alerts. -/
theorem State.releasesStation_of_eq {s t : State} {i : BankId} {h : RailHandover}
    (hc : t.comparator = (s.released i h).comparator) (ha : t.notices.alerts = (s.released i h).notices.alerts)
    (hd : t.notices.displaced = (s.released i h).notices.displaced) : s.ReleasesStation t i h (s.releaseDeform i) := by
  constructor
  case comparator => rw [hc]; exact ⟨rfl, rfl, rfl, rfl, rfl, rfl, rfl⟩
  case alerts => rw [ha, hd, State.released_notices, State.alerted_alerts]

/-! ### The STATION record and the release after it (R107 to R109) -/

/-- The record of the station under comparison, as the model builds it. -/
def State.releaseRecord (s : State) (i : BankId) (h : RailHandover) : Record :=
  s.evaluatedRecord i h (s.levelResults i)

/-- The release in the state that the record's offer has left, where no load begins with it. -/
theorem State.release_of_not_awaited {s : State} {i : BankId} {h : RailHandover} {w : Writing} (hload : s.NoLoadWaits)
    (hw : s.offer (s.releaseRecord i h) = s.withWriting w) :
    s.release i h =
      ((s.released i h).withWriting w).takeHeldBoundary.advanceEvaluation := by
  have hloader : ((s.alerted i h).withWriting w).loader = s.loader := by
    rw [State.alerted_eq]; rfl
  have halerted : (s.withWriting w).raiseAlert (s.bank i).first h.summary (s.releaseDeform i) =
      (s.alerted i h).withWriting w := State.withWriting_raiseAlert s w _ _ _
  have hfreed : ((s.alerted i h).withWriting w).freeBank i = ((s.alerted i h).bankReleased i).withWriting w := by
    rw [State.freeBank_of_not_awaited fun j q hl => absurd (hloader ▸ hl) (hload j q), State.withWriting_bankReleased]
  calc s.release i h
      = ((((s.offer (s.releaseRecord i h)).raiseAlert (s.bank i).first h.summary (s.releaseDeform i)).freeBank
          i).comparatorIdle).takeHeldBoundary.advanceEvaluation := rfl
    _ = ((((s.alerted i h).bankReleased i).withWriting w).comparatorIdle).takeHeldBoundary.advanceEvaluation := by
        rw [hw, halerted, hfreed]
    _ = _ := rfl

/-! ### A held boundary as a bank is freed (R71) -/

theorem State.takeHeldBoundary_of_none {s : State} (h : ∀ k, s.openBank = some k → (s.bank k).boundaryHeld = false) :
    s.takeHeldBoundary = s := by
  unfold State.takeHeldBoundary
  split
  next => rfl
  next k hk => exact if_neg fun ⟨hheld, _⟩ => by rw [h k hk] at hheld; cases hheld

theorem State.takeHeldBoundary_of_held {s : State} {k : BankId} (hopen : s.openBank = some k)
    (hheld : (s.bank k).boundaryHeld = true) (hfree : (s.bank k.other).phase = .free) :
    s.takeHeldBoundary =
      if s.calibration.direction.ahead s.stationNow (s.bank k).first then s.takeBoundary k s.stationNow
      else s.setBank k { s.bank k with boundaryHeld := false } := by
  simp only [State.takeHeldBoundary, hopen]
  rw [if_pos ⟨hheld, hfree⟩]

/-! ### The end of the event -/

theorem State.settle_of_goes_on {s : State} (h : s.finishDraining = s) : s.settle = s.flushPosition.arbitrate := by
  rw [State.settle, h]

theorem State.finishDraining_of_running {s : State} (h : s.control.survey = .running) : s.finishDraining = s :=
  if_neg fun ⟨hs, _⟩ => by rw [h] at hs; cases hs

theorem State.finishDraining_of_handed {s : State} (h : s.sweep.handover ≠ []) : s.finishDraining = s :=
  if_neg fun ⟨_, _, _, _, hh⟩ => h hh

theorem State.flushPosition_arbitrate_sheets (s : State) : s.flushPosition.arbitrate.sheets = s.sheets := by
  simp

end Sys2Proof.Machine
end

section
/-! PROOFS. What a release brings after it, with what the offers have written kept apart: an evaluation, a boundary, a
switch, a load and the end of a drain (R71, R72, R77, R121, R125). -/
namespace Sys2Proof.Machine

/-! ### Operations that what the offers have written stands apart from -/

theorem State.withWriting_setBank (s : State) (w : Writing) (i : BankId) (b : Bank) :
    (s.withWriting w).setBank i b = (s.setBank i b).withWriting w := by
  cases i <;> rfl

theorem State.withWriting_closeBank (s : State) (w : Writing) (i : BankId) (n : Nat) (c : Bool) :
    (s.withWriting w).closeBank i n c = (s.closeBank i n c).withWriting w := by
  cases i <;> rfl

theorem State.withWriting_evaluationBegun (s : State) (w : Writing) (i : BankId) :
    (s.withWriting w).evaluationBegun i = (s.evaluationBegun i).withWriting w := by
  cases i <;> rfl

theorem State.withWriting_setPlanSet (s : State) (w : Writing) (j : SetId) (p : PlanSet) :
    (s.withWriting w).setPlanSet j p = (s.setPlanSet j p).withWriting w := by
  cases j <;> rfl

theorem State.withWriting_referActive (s : State) (w : Writing) :
    (s.withWriting w).referActive = s.referActive.withWriting w := by
  unfold State.referActive
  rw [State.activeSet_of_loader (s := s) (t := s.withWriting w) rfl]
  cases s.activeSet with
  | none => rfl
  | some j =>
    simp only [State.withWriting_planSet]
    exact State.withWriting_setPlanSet s w j _

/-- An opening's number counted (R58). -/
def State.openingCounted (s : State) : State :=
  { s with accumulator := { s.accumulator with openingCounter := s.accumulator.openingCounter + 1 } }

/-- The set of the station opened referred to, and its number announced (R59, R28). -/
def State.stationAnnounced (s : State) (n : Int) : State :=
  { s.referActive with chainage := { s.referActive.chainage with openStation := some n } }

theorem State.openStationIn_eq (s : State) (i : BankId) (n : Int) :
    s.openStationIn i n =
      (s.openingCounted.setBank i
        (s.openingCounted.openedBank (s.openingCounted.bank i) (s.accumulator.openingCounter + 1) n)).stationAnnounced n :=
  rfl

theorem State.withWriting_openStationIn (s : State) (w : Writing) (i : BankId) (n : Int) :
    (s.withWriting w).openStationIn i n = (s.openStationIn i n).withWriting w := by
  have hopened : (s.withWriting w).openingCounted.openedBank ((s.withWriting w).openingCounted.bank i)
      (s.accumulator.openingCounter + 1) n =
        s.openingCounted.openedBank (s.openingCounted.bank i) (s.accumulator.openingCounter + 1) n := by
    cases i <;> rfl
  rw [State.openStationIn_eq, State.openStationIn_eq,
    show (s.withWriting w).accumulator.openingCounter = s.accumulator.openingCounter from rfl, hopened,
    show (s.withWriting w).openingCounted = s.openingCounted.withWriting w from rfl, State.withWriting_setBank]
  unfold State.stationAnnounced
  rw [State.withWriting_referActive]
  rfl

/-! ### Sets that agree but in their reference counts -/

/-- The plan sets of two states are the same but for their reference counts. -/
def State.PlansAgree (s t : State) : Prop :=
  ∀ j, t.planSet j = { s.planSet j with references := (t.planSet j).references }

section
variable {s t : State} (h : s.PlansAgree t)
include h

theorem State.PlansAgree.tables (j : SetId) : (t.planSet j).tables = (s.planSet j).tables := by rw [h j]
theorem State.PlansAgree.mark (j : SetId) : (t.planSet j).mark = (s.planSet j).mark := by rw [h j]
theorem State.PlansAgree.generation (j : SetId) : (t.planSet j).generation = (s.planSet j).generation := by rw [h j]
theorem State.PlansAgree.offset (j : SetId) : (t.planSet j).offset = (s.planSet j).offset := by rw [h j]

theorem State.PlansAgree.activeSet : t.activeSet = s.activeSet := by
  have hx : t.loader.setX.mark = s.loader.setX.mark := h.mark .x
  have hy : t.loader.setY.mark = s.loader.setY.mark := h.mark .y
  simp only [State.activeSet, hx, hy]

theorem State.PlansAgree.pendingSet : t.pendingSet = s.pendingSet := by
  have hx : t.loader.setX.mark = s.loader.setX.mark := h.mark .x
  have hy : t.loader.setY.mark = s.loader.setY.mark := h.mark .y
  simp only [State.pendingSet, hx, hy]

theorem State.PlansAgree.activeTables : t.activeTables = s.activeTables := by
  simp only [State.activeTables, h.activeSet, h.tables]

theorem State.PlansAgree.switchedTo (p : SetId) : (s.switchedTo p).PlansAgree (t.switchedTo p) := by
  intro j
  rw [State.switchedTo_planSet, State.switchedTo_planSet, h.mark j]
  conv_lhs => rw [h j]

theorem State.PlansAgree.afterSwitch : s.afterSwitch.PlansAgree t.afterSwitch := by
  unfold State.afterSwitch
  rw [h.pendingSet]
  cases s.pendingSet with
  | none => exact h
  | some p => exact h.switchedTo p

theorem State.PlansAgree.switchTally (y : Tally) (n x : Int) : t.switchTally y n x = s.switchTally y n x := by
  simp only [State.switchTally, h.pendingSet, h.generation, h.offset]

theorem State.PlansAgree.switchNotice (hn : t.notices.planTaken = s.notices.planTaken) :
    t.switchNotice = s.switchNotice := by
  simp only [State.switchNotice, h.pendingSet, h.generation, h.offset, hn]

theorem State.PlansAgree.boundTables {i : BankId} (hb : (t.bank i).planReference = (s.bank i).planReference) :
    t.boundTables i = s.boundTables i := by
  simp only [State.boundTables, hb, h.tables]

theorem State.PlansAgree.evaluatorTaking {i : BankId} (hb : (t.bank i).planReference = (s.bank i).planReference)
    (hz : (t.bank i).zone = (s.bank i).zone) : t.evaluatorTaking i = s.evaluatorTaking i := by
  simp only [State.evaluatorTaking, State.boundParameters, h.boundTables hb, hz]

end

theorem State.ReleasesOnce.plansAgree {s t : State} {i : BankId} (h : s.ReleasesOnce t i) : s.PlansAgree t := by
  intro j
  rw [h j]
  split
  next => rfl
  next => rfl

/-! ### The switch at an opening (R125) -/

/-- The state after the switch an opening makes, but for its PLAN record. -/
def State.switched (s : State) : State :=
  { s.afterSwitch with notices := { s.notices with planTaken := s.switchNotice } }

theorem State.afterSwitch_eq (s : State) :
    s.afterSwitch = { s with loader := { s.loader with
      setX := s.afterSwitch.loader.setX, setY := s.afterSwitch.loader.setY } } := by
  unfold State.afterSwitch
  cases s.pendingSet <;> rfl

theorem State.switched_eq (s : State) :
    s.switched = { s with
      loader := { s.loader with setX := s.afterSwitch.loader.setX, setY := s.afterSwitch.loader.setY }
      notices := { s.notices with planTaken := s.switchNotice } } := by
  unfold State.switched
  rw [State.afterSwitch_eq]

theorem State.switched_bank (s : State) (i : BankId) : s.switched.bank i = s.bank i :=
  State.bank_of_accumulator (by rw [State.switched_eq]) i

theorem State.switched_planSet (s : State) (j : SetId) : s.switched.planSet j = s.afterSwitch.planSet j :=
  State.planSet_of_loader rfl j

/-- A switch leaves the counts as they are. -/
theorem State.afterSwitch_references (s : State) (j : SetId) :
    (s.afterSwitch.planSet j).references = (s.planSet j).references := by
  unfold State.afterSwitch
  cases s.pendingSet with
  | none => rfl
  | some p => rw [Option.map_some, Option.getD_some, State.switchedTo_planSet]

/-- R125: the switch after offers, its PLAN record offered where a set is PENDING. -/
theorem State.withWriting_switchPlan (s : State) (w : Writing) (n : Int) :
    ∃ x, (s.withWriting w).switchPlan n = s.switched.withWriting x ∧
      x.sheets.tally = s.switchTally w.sheets.tally n s.chainage.chainage ∧ x.due = w.due := by
  have hpending : (s.withWriting w).pendingSet = s.pendingSet := rfl
  cases hp : s.pendingSet with
  | none =>
    refine ⟨w, ?_, ?_, rfl⟩
    · rw [State.switchPlan_of_none (hpending.trans hp)]
      simp [State.switched, State.afterSwitch, State.switchNotice, hp]
    · simp [State.switchTally, hp]
  | some p =>
    obtain ⟨x, hx, ho⟩ := State.exists_offered (s.switched.withWriting w)
      (planRecord .switch p (s.planSet p).generation (s.planSet p).offset n s.chainage.chainage)
    have hswitched : ((s.withWriting w).switchedTo p).raisePlanTaken (BitVec.ofNat 24 (s.planSet p).generation)
        (natWord (s.planSet p).offset) = s.switched.withWriting w := by
      simp only [State.switched, State.afterSwitch, State.switchNotice, hp]
      rfl
    refine ⟨x, ?_, ?_, ?_⟩
    · rw [State.switchPlan_of_some (hpending.trans hp), State.withWriting_planSet, hswitched]
      exact hx
    · rw [ho.tally]
      simp [State.switchTally, hp, State.withWriting]
    · rw [ho.due]
      simp [State.withWriting, planRecord, RecordKind.isStation]

/-- R59: the station opened after the switch. -/
theorem State.withWriting_openStation (s : State) (w : Writing) (i : BankId) (n : Int) :
    ∃ x, (s.withWriting w).openStation i n = (s.switched.openStationIn i n).withWriting x ∧
      x.sheets.tally = s.switchTally w.sheets.tally n s.chainage.chainage ∧ x.due = w.due := by
  obtain ⟨x, hx, htally, hdue⟩ := s.withWriting_switchPlan w n
  exact ⟨x, by rw [State.openStation, hx, State.withWriting_openStationIn], htally, hdue⟩

/-! ### A load begun (R114, R117) -/

/-- R117: the offset is refused where it is not whole words or the header does not fit the area. -/
def State.refusesOffset (s : State) (q : Nat) : Prop :=
  q % 4 ≠ 0 ∨ s.areaSize < q + planHeaderLength

/-- The state with a load under way. -/
def State.withLoad (s : State) (l : Load) : State :=
  { s with loader := { s.loader with load := l } }

theorem State.beginLoad_of_refused {s : State} {q : Nat} (h : s.refusesOffset q) (j : SetId) :
    s.beginLoad j q = (s.setPlanSet j (s.planSet j).vacated).refuseLoad (.badSpan, q) := by
  unfold State.beginLoad
  exact if_pos h

theorem State.beginLoad_of_accepted {s : State} {q : Nat} (h : ¬ s.refusesOffset q) (j : SetId) :
    s.beginLoad j q = ((s.setPlanSet j (s.planSet j).vacated).withLoad (.copying j q .header [])).place .loader
      [readBurst .planHeader q 22] := by
  unfold State.beginLoad
  exact if_neg h

theorem State.place_loader_eq (s : State) (bs : List Burst) :
    s.place .loader bs = { s with port := { s.port with loaderQueue := (s.place .loader bs).port.loaderQueue } } := by
  unfold State.place
  split
  next => rfl
  next => rfl

theorem State.beginLoad_eq (s : State) (j : SetId) (q : Nat) :
    s.beginLoad j q = { s with
      loader := (s.beginLoad j q).loader
      notices := { s.notices with setupFault := (s.beginLoad j q).notices.setupFault }
      port := { s.port with loaderQueue := (s.beginLoad j q).port.loaderQueue } } := by
  by_cases h : s.refusesOffset q
  · rw [State.beginLoad_of_refused h]
    cases j <;> rfl
  · rw [State.beginLoad_of_accepted h, State.place_loader_eq]
    cases j <;> rfl

theorem State.withWriting_beginLoad (s : State) (w : Writing) (j : SetId) (q : Nat) :
    (s.withWriting w).beginLoad j q = (s.beginLoad j q).withWriting w := by
  have hplace (t : State) (bs : List Burst) : (t.withWriting w).place .loader bs = (t.place .loader bs).withWriting w := by
    unfold State.place
    rw [show (t.withWriting w).port.access = t.port.access from rfl]
    cases t.port.access <;> rfl
  by_cases h : s.refusesOffset q
  · rw [State.beginLoad_of_refused h, State.beginLoad_of_refused (s := s.withWriting w) h, State.withWriting_planSet,
      State.withWriting_setPlanSet]
    rfl
  · rw [State.beginLoad_of_accepted h, State.beginLoad_of_accepted (s := s.withWriting w) h, State.withWriting_planSet,
      State.withWriting_setPlanSet, ← hplace]
    rfl

/-- R117: a refused load is none, and SETUP_FAULT names its offset. -/
theorem State.beginLoad_refused {s : State} {q : Nat} (h : s.refusesOffset q) (j : SetId) :
    (s.beginLoad j q).loader = { s.loader with
        load := .idle, calibrationWords := []
        setX := (s.beginLoad j q).loader.setX, setY := (s.beginLoad j q).loader.setY } ∧
      (s.beginLoad j q).notices.setupFault =
        some { argument := 3, particulars := BitVec.ofNat 32 q, more := s.notices.setupFault.isSome } := by
  rw [State.beginLoad_of_refused h]
  cases j <;> exact ⟨rfl, rfl⟩

/-- R114: a load that begins asks for the plan header. -/
theorem State.beginLoad_accepted {s : State} {q : Nat} (h : ¬ s.refusesOffset q) (j : SetId)
    (hopen : s.port.access = .opened) :
    (s.beginLoad j q).loader = { s.loader with
        load := .copying j q .header []
        setX := (s.beginLoad j q).loader.setX, setY := (s.beginLoad j q).loader.setY } ∧
      (s.beginLoad j q).port.loaderQueue =
        s.port.loaderQueue ++ [{ offset := q, transfer := .read 16, purpose := .planHeader }] ∧
      (s.beginLoad j q).notices.setupFault = s.notices.setupFault := by
  have hplace (t : State) (bs : List Burst) (ht : t.port = s.port) :
      (t.place .loader bs).port.loaderQueue = s.port.loaderQueue ++ bs := by
    simp [State.place, ht, hopen]
  rw [State.beginLoad_of_accepted h, State.place_loader_eq, hplace _ _ (by simp [State.withLoad])]
  cases j <;> exact ⟨rfl, rfl, rfl⟩

/-! ### END offered at the end of a drain (R134, R169) -/

theorem State.offerEnd_writesMore (s : State) (m : StopMode) (c : Nat) : s.WritesMore (s.offerEnd m c) := by
  unfold State.offerEnd
  split
  next => exact State.WritesMore.trans (t := s.enqueue (s.buildEnd m c)) rfl (State.lookAtHead_writesMore _)
  next => rfl

/-- R134: END is admitted, or waits for room. -/
theorem State.exists_offeredEnd (s : State) (m : StopMode) (c : Nat) :
    ∃ w, s.offerEnd m c = s.withWriting w ∧
      w.sheets.tally = s.sheets.tally.offerEnd m c s.chainage.chainage ∧
      w.sheets.endWaiting = (s.sheets.endWaiting || decide (8 ≤ s.sheets.queue.length)) ∧ w.due = s.positionDue := by
  obtain ⟨w, hw⟩ := (s.offerEnd_writesMore m c).exists_withWriting
  have hsheets : w.sheets = (s.offerEnd m c).sheets := by rw [hw]; rfl
  have hdue : w.due = (s.offerEnd m c).positionDue := by rw [hw]; rfl
  refine ⟨w, hw, ?_, ?_, ?_⟩
  · rw [hsheets]
    by_cases hroom : s.sheets.queue.length < 8
    · rw [State.offerEnd, if_pos hroom, State.admitRecord, State.lookAtHead_tally, Tally.offerEnd,
        if_pos (show s.sheets.tally.queue.length < 8 from hroom)]
      rfl
    · rw [State.offerEnd, if_neg hroom, Tally.offerEnd,
        if_neg (show ¬ s.sheets.tally.queue.length < 8 from hroom)]
      rfl
  · rw [hsheets]
    by_cases hroom : s.sheets.queue.length < 8
    · simp [State.offerEnd, hroom, State.admitRecord, State.enqueue]
    · simp [State.offerEnd, hroom, Nat.le_of_not_lt hroom]
  · rw [hdue]
    by_cases hroom : s.sheets.queue.length < 8
    · simp [State.offerEnd, hroom, State.admitRecord, State.enqueue, State.buildEnd, endRecord, RecordKind.isStation]
    · simp [State.offerEnd, hroom]

end Sys2Proof.Machine
end

section
/-! PROOFS. The end of the comparison and what follows the release; and O37. -/
namespace Sys2Proof.Machine

theorem State.exec_comparisonPassEnd {s : State} {i : BankId} {h : RailHandover} (hp : s.comparator.phase = .comparing)
    (hb : s.comparator.bank = some i) (hr : s.comparator.rail = some h) :
    exec .comparisonPassEnd s = .next (s.release i h).settle := by
  simp only [exec, execComparisonPassEnd, hp, hb, hr]

/-! ### The end of the event after a release -/

theorem State.Offered.due_iff {s : State} {r : Record} {w : Writing} (ho : s.Offered r w) (hs : s.Rested)
    (hr : r.kind.isStation = true) : w.due = true ↔ s.sheets.queue.length < 6 := by
  have hdue : s.positionDue = false := hs.settled
  rw [ho.due, hdue, hr]
  simp

theorem State.Rested.settle_of_writing {s u : State} {w : Writing} (h : s.Rested) (hf : s.control.survey ≠ .faulted)
    (hgo : (u.withWriting w).finishDraining = u.withWriting w) (hport : u.port = s.port)
    (hdue : u.positionDue = s.positionDue) :
    u.SameButForWriting (u.withWriting w).settle (w.due = true) ∧ (u.withWriting w).settle.sheets = w.sheets := by
  rw [State.settle_of_goes_on hgo]
  exact ⟨h.flushed hf hport hdue (u.writesMore_withWriting w), State.flushPosition_arbitrate_sheets _⟩

/-! ### What a release leaves as it was -/

section
variable (s : State) (i : BankId) (h : RailHandover)

theorem State.released_port : (s.released i h).port = s.port := by rw [State.released_eq]; rfl
theorem State.released_positionDue : (s.released i h).positionDue = s.positionDue := by rw [State.released_eq]; rfl
theorem State.released_control : (s.released i h).control = s.control := by rw [State.released_eq]; rfl
theorem State.released_sweep : (s.released i h).sweep = s.sweep := by rw [State.released_eq]; rfl
theorem State.released_chainage : (s.released i h).chainage = s.chainage := by rw [State.released_eq]; rfl

theorem State.released_calibration : (s.released i h).calibration = s.calibration := by
  rw [State.released_eq]; rfl

theorem State.released_openingCounter :
    (s.released i h).accumulator.openingCounter = s.accumulator.openingCounter := by
  rw [State.released_eq]; rfl

theorem State.released_planTaken : (s.released i h).notices.planTaken = s.notices.planTaken := by
  rw [State.released_eq]; rfl

theorem State.released_evaluationOrder {rest : List BankId} (ho : s.accumulator.evaluationOrder = i :: rest) :
    (s.released i h).accumulator.evaluationOrder = rest := by
  rw [State.released_eq, ho, List.erase_cons_head]
  rfl

theorem State.released_bank_self : (s.released i h).bank i = (s.bank i).freed := by
  rw [State.released_bank, if_pos rfl]

theorem State.released_bank_other : (s.released i h).bank i.other = s.bank i.other := by
  rw [State.released_bank, if_neg (BankId.other_ne i)]

/-- A boundary the other bank does not hold is held by none. -/
theorem State.released_boundaryHeld (ho : (s.bank i.other).boundaryHeld = false) (k : BankId) :
    ((s.released i h).bank k).boundaryHeld = false := by
  rcases BankId.eq_or_other i k with rfl | rfl
  · rw [State.released_bank_self]
    rfl
  · rw [State.released_bank_other]
    exact ho

end

/-- The bank other than one that is not OPEN is the open bank where it is OPEN. -/
theorem State.openBank_eq_other {s : State} {i : BankId} (hi : (s.bank i).phase ≠ .opened)
    (ho : (s.bank i.other).phase = .opened) : s.openBank = some i.other := by
  cases i with
  | bank0 => exact (if_neg hi).trans (if_pos ho)
  | bank1 => exact if_pos ho

theorem State.EvaluationsBegun.of_nil {s : State} (h : s.accumulator.evaluationOrder = []) : s.EvaluationsBegun := by
  intro i hi
  rw [h] at hi
  cases hi

theorem State.EvaluationsBegun.of_singleton {s : State} {i : BankId} (h : s.accumulator.evaluationOrder = [i])
    (hi : (s.bank i).inHand ≠ 0) : s.EvaluationsBegun := by
  intro k hk _
  rw [h] at hk
  cases hk
  exact hi

/-! ### The release, case by case -/

/-- A comparison that ends: what every case of the release begins with. -/
structure State.EndsComparison (s : State) (i : BankId) (h : RailHandover) (rest : List BankId) : Prop where
  rested : s.Rested
  comparing : s.comparator.phase = .comparing
  bank : s.comparator.bank = some i
  rail : s.comparator.rail = some h
  order : s.accumulator.evaluationOrder = i :: rest

/-- The tally once the STATION record has been offered. -/
def State.releaseTally (s : State) (i : BankId) (h : RailHandover) : Tally :=
  s.sheets.tally.offer (s.releaseRecord i h)

section
variable {s : State} {i : BankId} {h : RailHandover} {rest : List BankId}

theorem State.EndsComparison.exec_eq (he : s.EndsComparison i h rest) :
    exec .comparisonPassEnd s = .next (s.release i h).settle :=
  State.exec_comparisonPassEnd he.comparing he.bank he.rail

theorem State.EndsComparison.released_eq (he : s.EndsComparison i h rest) :
    s.released i h = s.withRelease (s.released i h) rest := by
  have hr := s.released_eq i h
  rw [he.order, List.erase_cons_head] at hr
  exact hr

/-- The STATION record's offer, before any load begins, and then what follows the release. -/
theorem State.EndsComparison.exists_writing (he : s.EndsComparison i h rest) (hload : s.NoLoadWaits) :
    ∃ w, (w.sheets.tally = s.releaseTally i h ∧ w.sheets.endWaiting = s.sheets.endWaiting ∧
        (w.due = true ↔ s.sheets.queue.length < 6)) ∧
      exec .comparisonPassEnd s =
        .next (((s.released i h).withWriting w).takeHeldBoundary.advanceEvaluation).settle := by
  obtain ⟨w, hw, ho⟩ := s.exists_offered (s.releaseRecord i h)
  refine ⟨w, ⟨ho.tally, ho.endWaiting, ho.due_iff he.rested rfl⟩, ?_⟩
  rw [he.exec_eq, State.release_of_not_awaited hload hw]

/-- The end of the event in a state that has the comparator and the alerts of the release. -/
theorem State.EndsComparison.settles (he : s.EndsComparison i h rest) {u : State} {w : Writing}
    (hdue : w.due = true ↔ s.sheets.queue.length < 6) (hf : s.control.survey ≠ .faulted)
    (hgo : (u.withWriting w).finishDraining = u.withWriting w) (hport : u.port = s.port)
    (hsettled : u.positionDue = s.positionDue) (hc : u.comparator = (s.released i h).comparator)
    (ha : u.notices.alerts = (s.released i h).notices.alerts)
    (hd : u.notices.displaced = (s.released i h).notices.displaced) :
    s.ReleasesStation (u.withWriting w).settle i h (s.releaseDeform i) ∧ (u.withWriting w).settle.sheets = w.sheets ∧
      u.SameButForWriting (u.withWriting w).settle (s.sheets.queue.length < 6) := by
  obtain ⟨hsame, hsheets⟩ := he.rested.settle_of_writing hf hgo hport hsettled
  exact ⟨State.releasesStation_of_eq (hsame.comparator.trans hc) (hsame.alerts.trans ha) (hsame.displaced.trans hd),
    hsheets, hsame.congr hdue⟩

/-- R109: nothing follows the release but the end of the event. -/
theorem State.EndsComparison.goes_on (he : s.EndsComparison i h rest)
    (hs : s.control.survey = .running ∨
      (s.control.survey = .stopping ∧ (s.sweep.handover ≠ [] ∨ (s.bank i.other).phase ≠ .free)))
    (hrest : rest = [] ∨ (rest = [i.other] ∧ (s.bank i.other).phase = .closing ∧ (s.bank i.other).inHand ≠ 0))
    (hheld : (s.bank i.other).boundaryHeld = false) (hload : s.NoLoadWaits) :
    ∃ t, exec .comparisonPassEnd s = .next t ∧ s.ReleasesStation t i h (s.releaseDeform i) ∧
      t.sheets.tally = s.releaseTally i h ∧ t.bank i = (s.bank i).freed ∧ t.bank i.other = s.bank i.other ∧
      s.ReleasesOnce t i ∧ State.SameButForWriting (s.withRelease t rest) t (s.sheets.queue.length < 6) := by
  obtain ⟨w, ⟨htally, -, hdue⟩, hexec⟩ := he.exists_writing hload
  have heq := he.released_eq
  have hbank := s.released_bank_other i h
  have hself := s.released_bank_self i h
  have hplans := s.released_planSet i h
  have horder := s.released_evaluationOrder i h he.order
  have hboundary : ((s.released i h).withWriting w).takeHeldBoundary =
      (s.released i h).withWriting w :=
    State.takeHeldBoundary_of_none fun k _ => by
      rw [State.withWriting_bank]; exact s.released_boundaryHeld i h hheld k
  have hbegun : ((s.released i h).withWriting w).EvaluationsBegun := by
    rcases hrest with rfl | ⟨rfl, -, hn⟩
    · exact .of_nil horder
    · refine .of_singleton horder ?_
      rw [State.withWriting_bank, hbank]
      exact hn
  have hgo : ((s.released i h).withWriting w).finishDraining =
      (s.released i h).withWriting w := by
    rcases hs with hs | ⟨-, hs | hs⟩
    · exact State.finishDraining_of_running ((congrArg _ (s.released_control i h)).trans hs)
    · refine State.finishDraining_of_handed ?_
      show (s.released i h).sweep.handover ≠ []
      rw [State.released_sweep]
      exact hs
    · refine State.finishDraining_of_bank (i := i.other) ?_
      rw [State.withWriting_bank, hbank]
      exact hs
  have hf : s.control.survey ≠ .faulted := by
    rcases hs with hs | ⟨hs, -⟩ <;> rw [hs] <;> decide
  obtain ⟨hstation, hsheets, hsame⟩ := he.settles hdue hf hgo (s.released_port i h) (s.released_positionDue i h) rfl rfl
    rfl
  rw [hboundary, State.advanceEvaluation_eq _ hbegun] at hexec
  refine ⟨_, hexec, hstation, by rw [hsheets, htally], ?_, ?_, ?_, ?_⟩
  · rw [hsame.bank, hself]
  · rw [hsame.bank, hbank]
  · exact fun j => (hsame.planSet j).trans (hplans j)
  · rw [hsame.withRelease, ← heq]
    exact hsame

/-- The state with the other bank's boundary set aside. -/
def State.boundarySetAside (s : State) (i : BankId) : State :=
  s.setBank i { s.bank i with boundaryHeld := false }

theorem State.boundarySetAside_bank (s : State) (i k : BankId) :
    (s.boundarySetAside i).bank k = if k = i then { s.bank i with boundaryHeld := false } else s.bank k := by
  rw [State.boundarySetAside, State.bank_setBank_if]

/-- R71: the boundary held is looked at as the bank is freed. -/
theorem State.released_takeHeldBoundary (ho : s.openBank = some i.other) (hheld : (s.bank i.other).boundaryHeld = true)
    (w : Writing) :
    ((s.released i h).withWriting w).takeHeldBoundary =
      if s.calibration.direction.ahead s.stationNow (s.bank i.other).first then
        ((s.released i h).withWriting w).takeBoundary i.other s.stationNow
      else ((s.released i h).boundarySetAside i.other).withWriting w := by
  have hbank := s.released_bank_other i h
  have hcalibration : ((s.released i h).withWriting w).calibration = s.calibration := s.released_calibration i h
  have hchainage : ((s.released i h).withWriting w).chainage = s.chainage := s.released_chainage i h
  have hnow : ((s.released i h).withWriting w).stationNow = s.stationNow := by
    simp only [State.stationNow, hcalibration, hchainage]
  have hopen : ((s.released i h).withWriting w).openBank = some i.other := by
    apply State.openBank_eq_other
    · rw [State.withWriting_bank, State.released_bank_self]
      exact BankPhase.noConfusion
    · rw [State.withWriting_bank, hbank]
      exact State.openBank_phase ho
  rw [State.takeHeldBoundary_of_held hopen (by rw [State.withWriting_bank, hbank, hheld])
    (by rw [BankId.other_other, State.withWriting_bank, State.released_bank_self]; rfl), hcalibration, hnow,
    State.withWriting_bank, hbank, State.withWriting_setBank, State.boundarySetAside, hbank]

/-- R71: a boundary held that is not ahead is set aside. -/
theorem State.EndsComparison.sets_aside (he : s.EndsComparison i h []) (hs : s.control.survey = .running)
    (ho : s.openBank = some i.other) (hheld : (s.bank i.other).boundaryHeld = true) (hload : s.NoLoadWaits)
    (hahead : s.calibration.direction.ahead s.stationNow (s.bank i.other).first = false) :
    ∃ t, exec .comparisonPassEnd s = .next t ∧ s.ReleasesStation t i h (s.releaseDeform i) ∧
      t.sheets.tally = s.releaseTally i h ∧ t.bank i = (s.bank i).freed ∧
      t.bank i.other = { s.bank i.other with boundaryHeld := false } ∧ s.ReleasesOnce t i ∧
      State.SameButForWriting (s.withRelease t []) t (s.sheets.queue.length < 6) := by
  obtain ⟨w, ⟨htally, -, hdue⟩, hexec⟩ := he.exists_writing hload
  have heq : (s.released i h).boundarySetAside i.other =
      s.withRelease ((s.released i h).boundarySetAside i.other) [] := by
    have hr := he.released_eq
    generalize s.released i h = x at hr ⊢
    rw [hr]
    cases i <;> rfl
  have horder : ((s.released i h).boundarySetAside i.other).accumulator.evaluationOrder = [] := by rw [heq]; rfl
  rw [State.released_takeHeldBoundary ho hheld, hahead, if_neg Bool.false_ne_true,
    State.advanceEvaluation_eq (State.withWriting _ w) (.of_nil horder)] at hexec
  obtain ⟨hstation, hsheets, hsame⟩ := he.settles (u := (s.released i h).boundarySetAside i.other) hdue
    (by rw [hs]; decide) (State.finishDraining_of_running (by rw [heq]; exact hs)) (by rw [heq]; rfl) (by rw [heq]; rfl)
    (by simp [State.boundarySetAside]) (by simp [State.boundarySetAside]) (by simp [State.boundarySetAside])
  have hloader : ((s.released i h).boundarySetAside i.other).loader = (s.released i h).loader := by
    simp [State.boundarySetAside]
  refine ⟨_, hexec, hstation, by rw [hsheets, htally], ?_, ?_, ?_, ?_⟩
  · rw [hsame.bank, State.boundarySetAside_bank, if_neg (BankId.other_ne i).symm, State.released_bank_self]
  · rw [hsame.bank, State.boundarySetAside_bank, if_pos rfl, State.released_bank_other]
  · intro j
    rw [hsame.planSet, State.planSet_of_loader hloader]
    exact s.released_planSet i h j
  · rw [hsame.withRelease, ← heq]
    exact hsame

/-- R72: the bank next in the order becomes EVALUATING. -/
theorem State.EndsComparison.begins_next (he : s.EndsComparison i h [i.other])
    (hs : s.control.survey = .running ∨ s.control.survey = .stopping) (hp : (s.bank i.other).phase = .closing)
    (hn : (s.bank i.other).inHand = 0) (hc : (s.bank i.other).committed ≠ 0)
    (hheld : (s.bank i.other).boundaryHeld = false) (hload : s.NoLoadWaits) :
    ∃ t, exec .comparisonPassEnd s = .next t ∧ s.ReleasesStation t i h (s.releaseDeform i) ∧
      t.sheets.tally = s.releaseTally i h ∧ t.bank i = (s.bank i).freed ∧
      t.bank i.other = s.evaluatingBank i.other (s.bank i.other) ∧ s.ReleasesOnce t i ∧
      State.SameButForWriting { s.withRelease t [i.other] with evaluator := s.evaluatorTaking i.other } t
        (s.sheets.queue.length < 6) := by
  obtain ⟨w, ⟨htally, -, hdue⟩, hexec⟩ := he.exists_writing hload
  have hbank := s.released_bank_other i h
  have hagree := (s.released_planSet i h).plansAgree
  have htaking : (s.released i h).evaluatorTaking i.other = s.evaluatorTaking i.other :=
    hagree.evaluatorTaking (by rw [hbank]) (by rw [hbank])
  have hevaluating : (s.released i h).evaluatingBank i.other (s.bank i.other) =
      s.evaluatingBank i.other (s.bank i.other) := by
    simp only [State.evaluatingBank, hagree.boundTables (i := i.other) (by rw [hbank])]
  have heq : (s.released i h).evaluationBegun i.other =
      { s.withRelease ((s.released i h).evaluationBegun i.other) [i.other] with
        evaluator := s.evaluatorTaking i.other } := by
    rw [← htaking]
    have hr := he.released_eq
    generalize s.released i h = x at hr ⊢
    rw [hr]
    cases i <;> rfl
  have hboundary : ((s.released i h).withWriting w).takeHeldBoundary = (s.released i h).withWriting w :=
    State.takeHeldBoundary_of_none fun k _ => by
      rw [State.withWriting_bank]; exact s.released_boundaryHeld i h hheld k
  have hadvance : ((s.released i h).withWriting w).advanceEvaluation =
      ((s.released i h).evaluationBegun i.other).withWriting w := by
    rw [State.advanceEvaluation_of_ready (i := i.other), State.withWriting_evaluationBegun]
    · exact congrArg List.head? (s.released_evaluationOrder i h he.order)
    · rw [State.withWriting_bank, hbank, hp]
    · rw [State.withWriting_bank, hbank, hn]
    · rw [State.withWriting_bank, hbank]; exact hc
  rw [hboundary, hadvance] at hexec
  have hstays : (((s.released i h).evaluationBegun i.other).withWriting w).finishDraining =
      ((s.released i h).evaluationBegun i.other).withWriting w := by
    refine State.finishDraining_of_bank (i := i.other) ?_
    rw [State.withWriting_bank, State.evaluationBegun_bank, if_pos rfl]
    exact BankPhase.noConfusion
  obtain ⟨hstation, hsheets, hsame⟩ := he.settles (u := (s.released i h).evaluationBegun i.other) hdue
    (by rcases hs with hs | hs <;> rw [hs] <;> decide) hstays (by rw [heq]; rfl) (by rw [heq]; rfl)
    (by simp [State.evaluationBegun]) (by simp [State.evaluationBegun]) (by simp [State.evaluationBegun])
  have hloader : ((s.released i h).evaluationBegun i.other).loader = (s.released i h).loader := by
    simp [State.evaluationBegun]
  refine ⟨_, hexec, hstation, by rw [hsheets, htally], ?_, ?_, ?_, ?_⟩
  · rw [hsame.bank, State.evaluationBegun_bank, if_neg (BankId.other_ne i).symm, State.released_bank_self]
  · rw [hsame.bank, State.evaluationBegun_bank, if_pos rfl, hbank, hevaluating]
  · intro j
    rw [hsame.planSet, State.planSet_of_loader hloader]
    exact s.released_planSet i h j
  · rw [hsame.withRelease, ← heq]
    exact hsame

end

end Sys2Proof.Machine
end

section
/-! PROOFS. The release that takes a held boundary, the one that begins a load and the one that ends a drain; and O37. -/
namespace Sys2Proof.Machine

/-! ### A close and an opening, and what they leave as it was -/

theorem State.closeBank_eq (s : State) (i : BankId) (n : Nat) (c : Bool) :
    s.closeBank i n c = { s with accumulator := { s.accumulator with
      evaluationOrder := s.accumulator.evaluationOrder ++ [i]
      bank0 := (s.closeBank i n c).accumulator.bank0, bank1 := (s.closeBank i n c).accumulator.bank1 } } := by
  cases i <;> rfl

theorem State.referActive_eq (s : State) :
    s.referActive = { s with loader := { s.loader with
      setX := s.referActive.loader.setX, setY := s.referActive.loader.setY } } := by
  unfold State.referActive
  split
  next j _ => cases j <;> rfl
  next => rfl

theorem State.openStationIn_changes (s : State) (i : BankId) (n : Int) :
    s.openStationIn i n = { s with
      chainage := { s.chainage with openStation := some n }
      accumulator := { s.accumulator with
        openingCounter := s.accumulator.openingCounter + 1
        bank0 := (s.openStationIn i n).accumulator.bank0, bank1 := (s.openStationIn i n).accumulator.bank1 }
      loader := { s.loader with
        setX := (s.openStationIn i n).loader.setX, setY := (s.openStationIn i n).loader.setY } } := by
  rw [State.openStationIn_eq]
  unfold State.stationAnnounced
  rw [State.referActive_eq]
  cases i <;> rfl

/-- R58, R59: a bank opened is as the statements say, under sets that agree but in their counts. -/
theorem State.PlansAgree.opensAs {s t : State} (h : s.PlansAgree t) (hc : t.calibration = s.calibration) (b : Bank)
    (k : BitVec 16) (n : Int) : s.OpensAs (t.openedBank b k n) k n t.chainage.chainage := by
  constructor
  case planReference => simp only [State.openedBank, h.activeSet, h.generation]
  case zone => simp only [State.openedBank, h.activeTables, hc]
  case counts => exact ⟨rfl, rfl, rfl⟩
  case rail => simp [State.openedBank, RailCell.empty]
  case level => simp [State.openedBank, LevelCell.empty]
  all_goals rfl

section
variable {s : State} {i : BankId} {h : RailHandover}

/-- The state with the station of the other bank closed at the boundary it held. -/
def State.boundaryClosed (s : State) (i : BankId) (h : RailHandover) : State :=
  (s.released i h).closeBank i.other ((s.bank i.other).grownSpan s.stationNow) false

/-- And with the new station opened in the bank freed, any switch first. -/
def State.boundaryTaken (s : State) (i : BankId) (h : RailHandover) : State :=
  (s.boundaryClosed i h).switched.openStationIn i s.stationNow

theorem State.boundaryClosed_bank_other (s : State) (i : BankId) (h : RailHandover) :
    (s.boundaryClosed i h).bank i.other = { s.bank i.other with
      phase := .closing, endChainage := some (s.chainage.chainage / 1024), boundaryHeld := false
      span := max (s.bank i.other).span (min 255 (s.stationNow - (s.bank i.other).first).natAbs) } := by
  rw [State.boundaryClosed, State.closeBank_bank, if_pos rfl, State.released_bank_other, State.released_chainage,
    Bool.or_false]
  rfl

theorem State.boundaryClosed_loader (s : State) (i : BankId) (h : RailHandover) :
    (s.boundaryClosed i h).loader = (s.released i h).loader := by
  rw [State.boundaryClosed, State.closeBank_eq]

theorem State.boundaryClosed_planSet (s : State) (i : BankId) (h : RailHandover) : s.ReleasesOnce (s.boundaryClosed i h) i :=
  fun j => (State.planSet_of_loader (s.boundaryClosed_loader i h) j).trans (s.released_planSet i h j)

theorem State.boundaryClosed_switchNotice (s : State) (i : BankId) (h : RailHandover) :
    (s.boundaryClosed i h).switchNotice = s.switchNotice := by
  refine (s.boundaryClosed_planSet i h).plansAgree.switchNotice ?_
  rw [State.boundaryClosed, State.closeBank_eq]
  exact s.released_planTaken i h

/-- The sets as the station opens: switched, and the freed bank's given up. -/
theorem State.boundaryClosed_switched_plansAgree (s : State) (i : BankId) (h : RailHandover) :
    s.afterSwitch.PlansAgree (s.boundaryClosed i h).switched := by
  intro j
  rw [State.switched_planSet]
  exact (s.boundaryClosed_planSet i h).plansAgree.afterSwitch j

theorem State.boundaryTaken_planSet (s : State) (i : BankId) (h : RailHandover) (j : SetId) :
    (s.boundaryTaken i h).planSet j = { s.afterSwitch.planSet j with
      references := (s.planSet j).references -
        (if (s.bank i).planReference.map PlanReference.set = some j then 1 else 0) +
        (if s.afterSwitch.activeSet = some j then 1 else 0) } := by
  have hagree := s.boundaryClosed_switched_plansAgree i h
  have hcount : ((s.boundaryClosed i h).switched.planSet j).references = (s.planSet j).references -
      (if (s.bank i).planReference.map PlanReference.set = some j then 1 else 0) := by
    rw [State.switched_planSet, State.afterSwitch_references, s.boundaryClosed_planSet i h j]
    split
    next => rfl
    next => rfl
  rw [State.boundaryTaken, State.openStationIn_planSet, hagree.activeSet, ← hcount]
  split
  next => rw [hagree j]
  next => exact hagree j

theorem State.boundaryTaken_of_released (s : State) (i : BankId) (h : RailHandover) :
    s.boundaryTaken i h =
      { s.released i h with
        chainage := { (s.released i h).chainage with openStation := some s.stationNow }
        accumulator := { (s.released i h).accumulator with
          openingCounter := (s.released i h).accumulator.openingCounter + 1
          evaluationOrder := (s.released i h).accumulator.evaluationOrder ++ [i.other]
          bank0 := (s.boundaryTaken i h).accumulator.bank0, bank1 := (s.boundaryTaken i h).accumulator.bank1 }
        loader := { (s.released i h).loader with
          setX := (s.boundaryTaken i h).loader.setX, setY := (s.boundaryTaken i h).loader.setY }
        notices := { (s.released i h).notices with planTaken := s.switchNotice } } := by
  have hopened := (s.boundaryClosed i h).switched.openStationIn_changes i s.stationNow
  have hclosed := (s.released i h).closeBank_eq i.other ((s.bank i.other).grownSpan s.stationNow) false
  change s.boundaryTaken i h = _ at hopened
  change s.boundaryClosed i h = _ at hclosed
  rw [State.switched_eq, s.boundaryClosed_switchNotice i h] at hopened
  generalize s.boundaryClosed i h = c at hopened hclosed
  generalize s.boundaryTaken i h = u at hopened ⊢
  rw [hopened, hclosed]

theorem State.EndsComparison.boundaryTaken_eq (he : s.EndsComparison i h []) :
    s.boundaryTaken i h =
      { s.withRelease (s.boundaryTaken i h) [i.other] with
        chainage := { s.chainage with openStation := some s.stationNow }
        accumulator := { (s.withRelease (s.boundaryTaken i h) [i.other]).accumulator with
          openingCounter := s.accumulator.openingCounter + 1 }
        notices := { (s.withRelease (s.boundaryTaken i h) [i.other]).notices with planTaken := s.switchNotice } } := by
  have htaken := s.boundaryTaken_of_released i h
  have hreleased := he.released_eq
  generalize s.boundaryTaken i h = u at htaken ⊢
  generalize s.released i h = x at htaken hreleased
  rw [htaken, hreleased]
  rfl

/-- R58, R59: the station opened in the bank freed. -/
theorem State.boundaryTaken_opensAs (s : State) (i : BankId) (h : RailHandover) :
    s.afterSwitch.OpensAs ((s.boundaryTaken i h).bank i) (s.accumulator.openingCounter + 1) s.stationNow
      s.chainage.chainage := by
  have hclosed := (s.released i h).closeBank_eq i.other ((s.bank i.other).grownSpan s.stationNow) false
  change s.boundaryClosed i h = _ at hclosed
  have hchainage : (s.boundaryClosed i h).switched.chainage = s.chainage := by
    rw [State.switched_eq, hclosed]
    exact s.released_chainage i h
  have hcounter : (s.boundaryClosed i h).switched.accumulator.openingCounter = s.accumulator.openingCounter := by
    rw [State.switched_eq, hclosed]
    exact s.released_openingCounter i h
  have hcalibration : (s.boundaryClosed i h).switched.calibration = s.afterSwitch.calibration := by
    rw [State.switched_eq, hclosed, State.afterSwitch_eq s]
    exact s.released_calibration i h
  have hopens := (s.boundaryClosed_switched_plansAgree i h).opensAs hcalibration ((s.boundaryClosed i h).switched.bank i)
    (s.accumulator.openingCounter + 1) s.stationNow
  rw [hchainage] at hopens
  rw [State.boundaryTaken, State.openStationIn_bank, if_pos rfl, hcounter]
  exact hopens

/-- R71, R69: a boundary held that is ahead is taken, with the station of the chainage now. -/
theorem State.EndsComparison.takes_boundary (he : s.EndsComparison i h []) (hs : s.control.survey = .running)
    (ho : s.openBank = some i.other) (hheld : (s.bank i.other).boundaryHeld = true) (hload : s.NoLoadWaits)
    (hahead : s.calibration.direction.ahead s.stationNow (s.bank i.other).first = true)
    (hn : (s.bank i.other).inHand ≠ 0) :
    ∃ t, exec .comparisonPassEnd s = .next t ∧ s.ReleasesStation t i h (s.releaseDeform i) ∧
      t.sheets.tally = s.switchTally (s.releaseTally i h) s.stationNow s.chainage.chainage ∧
      t.bank i.other = { s.bank i.other with
        phase := .closing, endChainage := some (s.chainage.chainage / 1024), boundaryHeld := false
        span := max (s.bank i.other).span (min 255 (s.stationNow - (s.bank i.other).first).natAbs) } ∧
      s.afterSwitch.OpensAs (t.bank i) (s.accumulator.openingCounter + 1) s.stationNow s.chainage.chainage ∧
      (∀ j, t.planSet j = { s.afterSwitch.planSet j with
        references := (s.planSet j).references -
          (if (s.bank i).planReference.map PlanReference.set = some j then 1 else 0) +
          (if s.afterSwitch.activeSet = some j then 1 else 0) }) ∧
      State.SameButForWriting
        { s.withRelease t [i.other] with
          chainage := { s.chainage with openStation := some s.stationNow }
          accumulator := { (s.withRelease t [i.other]).accumulator with
            openingCounter := s.accumulator.openingCounter + 1 }
          notices := { (s.withRelease t [i.other]).notices with planTaken := s.switchNotice } }
        t (s.sheets.queue.length < 6) := by
  obtain ⟨w, ⟨htally, -, hdue⟩, hexec⟩ := he.exists_writing hload
  obtain ⟨x, hopened, hswitchTally, hx⟩ := (s.boundaryClosed i h).withWriting_openStation w i s.stationNow
  have heq := he.boundaryTaken_eq
  have hchainage : (s.boundaryClosed i h).chainage = s.chainage := by
    rw [State.boundaryClosed, State.closeBank_eq]
    exact s.released_chainage i h
  have hother : (s.boundaryTaken i h).bank i.other = (s.boundaryClosed i h).bank i.other := by
    rw [State.boundaryTaken, State.openStationIn_bank, if_neg (BankId.other_ne i), State.switched_bank]
  have htaken : ((s.released i h).withWriting w).takeBoundary i.other s.stationNow =
      (s.boundaryTaken i h).withWriting x := by
    rw [State.takeBoundary, State.withWriting_bank, State.released_bank_other, State.withWriting_closeBank,
      BankId.other_other]
    exact hopened
  have hbegun : ((s.boundaryTaken i h).withWriting x).EvaluationsBegun := by
    refine .of_singleton (i := i.other) ?_ ?_
    · show (s.boundaryTaken i h).accumulator.evaluationOrder = _
      rw [heq]
      rfl
    · rw [State.withWriting_bank, hother, State.boundaryClosed_bank_other]
      exact hn
  rw [State.released_takeHeldBoundary ho hheld, if_pos hahead, htaken, State.advanceEvaluation_eq _ hbegun] at hexec
  have hreleased := s.boundaryTaken_of_released i h
  obtain ⟨hstation, hsheets, hsame⟩ := he.settles (u := s.boundaryTaken i h) (w := x) (by rw [hx, hdue])
    (by rw [hs]; decide) (State.finishDraining_of_running (by rw [heq]; exact hs)) (by rw [heq]; rfl) (by rw [heq]; rfl)
    (by rw [hreleased]) (by rw [hreleased]) (by rw [hreleased])
  refine ⟨_, hexec, hstation, ?_, ?_, ?_, fun j => ?_, ?_⟩
  · rw [hsheets, hswitchTally, (s.boundaryClosed_planSet i h).plansAgree.switchTally, htally, hchainage]
  · rw [hsame.bank, hother, State.boundaryClosed_bank_other]
  · rw [hsame.bank]
    exact s.boundaryTaken_opensAs i h
  · rw [hsame.planSet, State.boundaryTaken_planSet]
  · rw [hsame.withRelease, ← heq]
    exact hsame

/-! ### A load that waited for the set freed (R121, R114) -/

theorem State.comparatorIdle_beginLoad (s : State) (j : SetId) (q : Nat) :
    (s.beginLoad j q).comparatorIdle = s.comparatorIdle.beginLoad j q := by
  have hset : s.comparatorIdle.setPlanSet j (s.comparatorIdle.planSet j).vacated =
      (s.setPlanSet j (s.planSet j).vacated).comparatorIdle := by cases j <;> rfl
  have hplace (t : State) (bs : List Burst) :
      (t.place .loader bs).comparatorIdle = t.comparatorIdle.place .loader bs := by
    unfold State.place
    rw [show t.comparatorIdle.port.access = t.port.access from rfl]
    cases t.port.access <;> rfl
  by_cases hq : s.refusesOffset q
  · rw [State.beginLoad_of_refused hq, State.beginLoad_of_refused (s := s.comparatorIdle) hq, hset]
    rfl
  · rw [State.beginLoad_of_accepted hq, State.beginLoad_of_accepted (s := s.comparatorIdle) hq, hset]
    exact hplace _ _

/-- The release in the state that the record's offer has left, where a load begins with it. -/
theorem State.release_of_awaited {w : Writing} {j : SetId} {q : Nat} (hl : s.loader.load = .waiting j q)
    (hr : (s.bank i).planReference.map PlanReference.set = some j) (hn : (s.planSet j).references ≤ 1)
    (hw : s.offer (s.releaseRecord i h) = s.withWriting w) :
    s.release i h = (((s.released i h).beginLoad j q).withWriting w).takeHeldBoundary.advanceEvaluation := by
  have hloader : ((s.alerted i h).withWriting w).loader = s.loader := by
    rw [State.alerted_eq]; rfl
  have hbank : ((s.alerted i h).withWriting w).bank i = s.bank i :=
    State.bank_of_accumulator (by rw [State.alerted_eq]; rfl) i
  have halerted : (s.withWriting w).raiseAlert (s.bank i).first h.summary (s.releaseDeform i) =
      (s.alerted i h).withWriting w := State.withWriting_raiseAlert s w _ _ _
  have hfreed : (((s.alerted i h).withWriting w).freeBank i).comparatorIdle =
      ((s.released i h).beginLoad j q).withWriting w := by
    rw [State.freeBank_of_awaited (by rw [hloader, hl]) (by rw [hbank, hr])
      (by rw [State.planSet_of_loader hloader]; exact hn), State.withWriting_bankReleased, State.comparatorIdle_beginLoad]
    exact State.withWriting_beginLoad (s.released i h) w j q
  calc s.release i h
      = ((((s.offer (s.releaseRecord i h)).raiseAlert (s.bank i).first h.summary (s.releaseDeform i)).freeBank
          i).comparatorIdle).takeHeldBoundary.advanceEvaluation := rfl
    _ = _ := by rw [hw, halerted, hfreed]

theorem State.released_refusesOffset (s : State) (i : BankId) (h : RailHandover) (q : Nat) :
    (s.released i h).refusesOffset q ↔
      (q % 4 ≠ 0 ∨ (s.control.geometry.map Geometry.areaSize).getD 0 < q + 88) := by
  rw [State.refusesOffset, State.areaSize, State.released_control]
  rfl

/-- R59, R121: the sets once the load has begun in the one set free. -/
theorem State.released_beginLoad_planSet {j : SetId} (hn : (s.planSet j).references = 1)
    (hr : (s.bank i).planReference.map PlanReference.set = some j) (q : Nat) (l : SetId) :
    ((s.released i h).beginLoad j q).planSet l =
      if l = j then { s.planSet l with status := .invalid, mark := .unmarked, references := 0 } else s.planSet l := by
  rw [State.beginLoad_planSet, s.released_planSet i h l, hr]
  by_cases hl : l = j
  · simp [hl, hn, PlanSet.vacated]
  · simp [hl, Ne.symm hl]

theorem State.EndsComparison.released_beginLoad_eq (he : s.EndsComparison i h []) (j : SetId) (q : Nat) :
    (s.released i h).beginLoad j q =
      { s.withRelease ((s.released i h).beginLoad j q) [] with
        loader := ((s.released i h).beginLoad j q).loader
        notices := { (s.withRelease ((s.released i h).beginLoad j q) []).notices with
          setupFault := ((s.released i h).beginLoad j q).notices.setupFault }
        port := { s.port with loaderQueue := ((s.released i h).beginLoad j q).port.loaderQueue } } := by
  have hbegun := (s.released i h).beginLoad_eq j q
  have hreleased := he.released_eq
  generalize (s.released i h).beginLoad j q = u at hbegun ⊢
  generalize s.released i h = x at hbegun hreleased
  rw [hbegun, hreleased]
  rfl

/-- R114, R117: what the load that begins with the release leaves in the Plan Loader. -/
theorem State.EndsComparison.released_beginLoad_loader (he : s.EndsComparison i h [])
    (hopen : s.port.access = .opened) (j : SetId) (q : Nat) :
    if q % 4 ≠ 0 ∨ (s.control.geometry.map Geometry.areaSize).getD 0 < q + 88 then
      ((s.released i h).beginLoad j q).loader =
          { (s.withRelease ((s.released i h).beginLoad j q) []).loader with load := .idle, calibrationWords := [] } ∧
        ((s.released i h).beginLoad j q).notices.setupFault =
          some ({ argument := 3, particulars := BitVec.ofNat 32 q, more := s.notices.setupFault.isSome })
    else
      ((s.released i h).beginLoad j q).loader =
          { (s.withRelease ((s.released i h).beginLoad j q) []).loader with load := .copying j q .header [] } ∧
        ((s.released i h).beginLoad j q).port.loaderQueue =
          s.port.loaderQueue ++ [{ offset := q, transfer := .read 16, purpose := .planHeader }] ∧
        ((s.released i h).beginLoad j q).notices.setupFault = s.notices.setupFault := by
  have hloader : (s.released i h).loader = { s.loader with
      setX := (s.released i h).loader.setX, setY := (s.released i h).loader.setY } :=
    congrArg State.loader he.released_eq
  have hfault : (s.released i h).notices.setupFault = s.notices.setupFault :=
    congrArg (fun x => x.notices.setupFault) he.released_eq
  have hport := s.released_port i h
  split
  next hq =>
    obtain ⟨hl, hn⟩ := State.beginLoad_refused ((s.released_refusesOffset i h q).2 hq) j
    rw [hfault] at hn
    refine ⟨hl.trans ?_, hn⟩
    generalize (s.released i h).beginLoad j q = u
    rw [hloader]
    rfl
  next hq =>
    have haccepted := mt (s.released_refusesOffset i h q).1 hq
    obtain ⟨hl, hb, hn⟩ := State.beginLoad_accepted haccepted j (hport ▸ hopen)
    rw [hfault] at hn
    rw [hport] at hb
    refine ⟨hl.trans ?_, hb, hn⟩
    generalize (s.released i h).beginLoad j q = u
    rw [hloader]
    rfl

/-- R121, R114: the load that waited for the bank's set begins. -/
theorem State.EndsComparison.begins_load (he : s.EndsComparison i h []) {j : SetId} {q : Nat}
    (hs : s.control.survey = .running) (hheld : (s.bank i.other).boundaryHeld = false)
    (hl : s.loader.load = .waiting j q) (hn : (s.planSet j).references = 1)
    (hr : (s.bank i).planReference.map PlanReference.set = some j) :
    ∃ t, exec .comparisonPassEnd s = .next t ∧ s.ReleasesStation t i h (s.releaseDeform i) ∧
      t.sheets.tally = s.releaseTally i h ∧ t.bank i = (s.bank i).freed ∧ t.bank i.other = s.bank i.other ∧
      (∀ l, t.planSet l =
        if l = j then { s.planSet l with status := .invalid, mark := .unmarked, references := 0 }
        else s.planSet l) ∧
      (if q % 4 ≠ 0 ∨ (s.control.geometry.map Geometry.areaSize).getD 0 < q + 88 then
        t.loader = { (s.withRelease t []).loader with load := .idle, calibrationWords := [] } ∧
        t.notices.setupFault = some ({ argument := 3, particulars := BitVec.ofNat 32 q,
                                       more := s.notices.setupFault.isSome })
      else
        t.loader = { (s.withRelease t []).loader with load := .copying j q .header [] } ∧
        t.port.asks .loader { offset := q, transfer := .read 16, purpose := .planHeader } ∧
        t.notices.setupFault = s.notices.setupFault) ∧
      State.SameButForWriting
        { s.withRelease t [] with
          loader := t.loader
          notices := { (s.withRelease t []).notices with setupFault := t.notices.setupFault }
          port := { s.port with loaderQueue := t.port.loaderQueue } } t (s.sheets.queue.length < 6) := by
  obtain ⟨w, hw, hoffered⟩ := s.exists_offered (s.releaseRecord i h)
  have heq := he.released_beginLoad_eq j q
  have hbank (k : BankId) : ((s.released i h).beginLoad j q).bank k = (s.released i h).bank k :=
    State.bank_of_accumulator (by rw [State.beginLoad_eq]) k
  have hboundary : (((s.released i h).beginLoad j q).withWriting w).takeHeldBoundary =
      ((s.released i h).beginLoad j q).withWriting w :=
    State.takeHeldBoundary_of_none fun k _ => by
      rw [State.withWriting_bank, hbank]; exact s.released_boundaryHeld i h hheld k
  have hbegun : (((s.released i h).beginLoad j q).withWriting w).EvaluationsBegun := by
    refine .of_nil ?_
    show ((s.released i h).beginLoad j q).accumulator.evaluationOrder = []
    rw [heq]
    rfl
  have hgo : (((s.released i h).beginLoad j q).withWriting w).finishDraining =
      ((s.released i h).beginLoad j q).withWriting w :=
    State.finishDraining_of_running (by rw [heq]; exact hs)
  have hopen : s.port.access = .opened := he.rested.opened (by rw [hs]; decide)
  have hidle := he.rested.port.openedIsBusy hopen
  have hflushed := (((s.released i h).beginLoad j q).writesMore_withWriting w).flushed (by rw [heq]; exact hopen)
    (by rw [heq]; exact fun hg => (hidle hg).1) (by rw [heq]; exact he.rested.settled)
  rw [← State.settle_of_goes_on hgo] at hflushed
  have hexec := he.exec_eq
  rw [State.release_of_awaited hl hr hn.le hw, hboundary, State.advanceEvaluation_eq _ hbegun] at hexec
  have hasks (b : Burst) (hb : ((s.released i h).beginLoad j q).port.loaderQueue = s.port.loaderQueue ++ [b]) :
      (((s.released i h).beginLoad j q).withWriting w).settle.port.asks .loader b := by
    rw [State.settle_of_goes_on hgo, MemoryPort.asks, State.arbitrate_burstsOf, State.flushPosition_eq]
    show b ∈ _ ++ ((s.released i h).beginLoad j q).port.loaderQueue
    rw [hb]
    simp
  have hsheets : (((s.released i h).beginLoad j q).withWriting w).settle.sheets = w.sheets := by
    rw [State.settle_of_goes_on hgo]
    exact State.flushPosition_arbitrate_sheets _
  have hloader := he.released_beginLoad_loader hopen j q
  have hsets := State.released_beginLoad_planSet (h := h) hn hr q
  have hcomparator : ((s.released i h).beginLoad j q).comparator = (s.released i h).comparator := by
    rw [State.beginLoad_eq]
  have halerts : ((s.released i h).beginLoad j q).notices.alerts = (s.released i h).notices.alerts := by
    rw [State.beginLoad_eq]
  have hdisplaced : ((s.released i h).beginLoad j q).notices.displaced = (s.released i h).notices.displaced := by
    rw [State.beginLoad_eq]
  generalize (((s.released i h).beginLoad j q).withWriting w).settle = t at hflushed hexec hasks hsheets
  generalize (s.released i h).beginLoad j q = u at *
  refine ⟨t, hexec, State.releasesStation_of_eq (hflushed.comparator.trans hcomparator) (hflushed.alerts.trans halerts)
    (hflushed.displaced.trans hdisplaced), ?_, ?_, ?_, fun l => ?_, ?_, ?_⟩
  · rw [hsheets]; exact hoffered.tally
  · exact (hflushed.bank i).trans ((hbank i).trans (s.released_bank_self i h))
  · exact (hflushed.bank i.other).trans ((hbank i.other).trans (s.released_bank_other i h))
  · exact (hflushed.planSet l).trans (hsets l)
  · rw [hflushed.loader, hflushed.setupFault, hflushed.withRelease]
    by_cases hq : q % 4 ≠ 0 ∨ (s.control.geometry.map Geometry.areaSize).getD 0 < q + 88
    · rw [if_pos hq] at hloader ⊢
      exact hloader
    · rw [if_neg hq] at hloader ⊢
      obtain ⟨hl, hb, hn⟩ := hloader
      exact ⟨hl, hasks _ hb, hn⟩
  · rw [hflushed.withRelease, hflushed.loader, hflushed.setupFault]
    have hsame := hflushed.congr (hoffered.due_iff he.rested rfl)
    generalize t.port.loaderQueue = bursts at hsame ⊢
    rw [heq] at hsame
    exact hsame

/-! ### The end of a drain (R77, R169) -/

/-- The state in which the drain has ended. -/
def State.drained (s : State) : State :=
  { s with control := { s.control with stopPhase := .ending } }

theorem State.finishDraining_of_drained {s : State} (hs : s.control.survey = .stopping)
    (hp : s.control.stopPhase = .draining) (hfree : ∀ i, (s.bank i).phase = .free) (hh : s.sweep.handover = []) :
    s.finishDraining = s.drained.offerEnd .finish 0 :=
  if_pos ⟨hs, hp, hfree .bank0, hfree .bank1, hh⟩

/-- R77, R134: the release that leaves nothing to drain offers END. -/
theorem State.EndsComparison.ends_drain (he : s.EndsComparison i h []) (hs : s.control.survey = .stopping)
    (hp : s.control.stopPhase = .draining) (ho : (s.bank i.other).phase = .free) (hh : s.sweep.handover = [])
    (hload : s.NoLoadWaits) :
    ∃ t, exec .comparisonPassEnd s = .next t ∧ s.ReleasesStation t i h (s.releaseDeform i) ∧
      t.sheets.tally = (s.releaseTally i h).offerEnd .finish 0 s.chainage.chainage ∧
      t.sheets.endWaiting = (s.sheets.endWaiting || decide (8 ≤ (s.releaseTally i h).queue.length)) ∧
      t.bank i = (s.bank i).freed ∧ t.bank i.other = s.bank i.other ∧ s.ReleasesOnce t i ∧
      State.SameButForWriting { s.withRelease t [] with control := { s.control with stopPhase := .ending } } t
        (s.sheets.queue.length < 6) := by
  obtain ⟨w, ⟨htally, hwaiting, hdue⟩, hexec⟩ := he.exists_writing hload
  obtain ⟨x, hend, hendTally, hendWaiting, hendDue⟩ := ((s.released i h).withWriting w).drained.exists_offeredEnd .finish 0
  have hfree (k : BankId) : ((s.released i h).bank k).phase = .free := by
    rcases BankId.eq_or_other i k with rfl | rfl
    · rw [State.released_bank_self]; rfl
    · rw [State.released_bank_other]; exact ho
  have hclosed (k : BankId) (hk : ((s.released i h).withWriting w).openBank = some k) :
      (((s.released i h).withWriting w).bank k).boundaryHeld = false := by
    have hopened := State.openBank_phase hk
    rw [State.withWriting_bank, hfree] at hopened
    cases hopened
  have hbegun : ((s.released i h).withWriting w).EvaluationsBegun := .of_nil (s.released_evaluationOrder i h he.order)
  have hdrained : ((s.released i h).withWriting w).finishDraining = (s.released i h).drained.withWriting x := by
    rw [State.finishDraining_of_drained, hend]
    · rfl
    · exact (congrArg SurveyControl.survey (s.released_control i h)).trans hs
    · exact (congrArg SurveyControl.stopPhase (s.released_control i h)).trans hp
    · exact fun k => (State.withWriting_bank _ w k ▸ hfree k)
    · exact (congrArg SweepPort.handover (s.released_sweep i h)).trans hh
  have hsettled : ((s.released i h).withWriting w).settle =
      ((s.released i h).drained.withWriting x).flushPosition.arbitrate := by
    rw [State.settle, hdrained]
  rw [State.takeHeldBoundary_of_none hclosed, State.advanceEvaluation_eq _ hbegun, hsettled] at hexec
  have heq : (s.released i h).drained =
      { s.withRelease (s.released i h).drained [] with control := { s.control with stopPhase := .ending } } := by
    have hreleased := he.released_eq
    generalize s.released i h = u at hreleased ⊢
    rw [hreleased]
    rfl
  have hflushed := he.rested.flushed (by rw [hs]; decide) (by rw [heq]; rfl) (by rw [heq]; rfl)
    ((s.released i h).drained.writesMore_withWriting x)
  have hsheets := State.flushPosition_arbitrate_sheets ((s.released i h).drained.withWriting x)
  change x.sheets.tally = w.sheets.tally.offerEnd .finish 0 (s.released i h).chainage.chainage at hendTally
  change x.sheets.endWaiting = (w.sheets.endWaiting || decide (8 ≤ w.sheets.tally.queue.length)) at hendWaiting
  rw [htally, State.released_chainage] at hendTally
  rw [hwaiting, htally] at hendWaiting
  have hsame := hflushed.congr ((congrArg (· = true) hendDue).to_iff.trans hdue)
  generalize ((s.released i h).drained.withWriting x).flushPosition.arbitrate = t at hexec hsheets hsame
  change t.sheets = x.sheets at hsheets
  refine ⟨t, hexec, State.releasesStation_of_eq hsame.comparator hsame.alerts hsame.displaced, ?_, ?_, ?_, ?_, ?_, ?_⟩
  · rw [hsheets, hendTally]
  · rw [hsheets, hendWaiting]
  · exact (hsame.bank i).trans (s.released_bank_self i h)
  · exact (hsame.bank i.other).trans (s.released_bank_other i h)
  · exact fun j => (hsame.planSet j).trans (s.released_planSet i h j)
  · rw [hsame.withRelease, ← heq]
    exact hsame

end

/-- Settles O37: the release, case by case of what follows it. -/
theorem comparisonPassEndReleasesTheStation : Obligations.ComparisonPassEndReleasesTheStation := by
  rintro s i o h levels d y rest n hrested hphase hbank hrail horder rfl hlevels hd hy hn
  obtain rfl : levels = s.levelResults i := hlevels
  obtain rfl : d = s.releaseDeform i := hd
  obtain rfl : y = s.releaseTally i h := hy
  obtain rfl : n = s.stationNow := hn
  have he : s.EndsComparison i h rest := ⟨hrested, hphase, hbank, hrail, horder⟩
  refine ⟨?goesOn, ?boundary, ?next, ?load, ?drained⟩
  case goesOn => exact he.goes_on
  case boundary =>
    rintro hs rfl ho hheld hload
    exact ⟨he.sets_aside hs ho hheld hload, he.takes_boundary hs ho hheld hload⟩
  case next =>
    rintro rfl hp hn hc hheld hload hs
    exact he.begins_next hs hp hn hc hheld hload
  case load =>
    rintro j q hs rfl hheld hl hn hr
    exact he.begins_load hs hheld hl hn hr
  case drained =>
    rintro hs hp rfl ho hh hload
    exact he.ends_drain hs hp ho hh hload

end Sys2Proof.Machine
end
